-- ==== Sys2Proof/Word.lean ====
section
/-! DEFINITION. The widths of the machine (00_scope.md section 6): bytes, 16-bit words, 2-bit shades. -/

namespace Sys2Proof

/-- `u8`: an 8-bit register or memory cell (10_state.md R6, R16). -/
abbrev Byte := BitVec 8

/-- `u16`: an address, a register pair, `SP` or `PC` (10_state.md R7, R11, R12, R16). -/
abbrev Word := BitVec 16

/-- A pixel's shade 0..3, 0 the lightest (61_ppu.md R161). -/
abbrev Shade := BitVec 2

end Sys2Proof
end

