-- ==== Sys2Proof/Fields.lean ====
section
/-! DEFINITION. The names that the opcode's sub-fields select (10_state.md R9, R10; 30_encoding.md R51), and the
forms that the instruction rules R58-R138 give a meaning to. -/

namespace Sys2Proof

/-- The 8-bit operand table `reg8[i]`, i = 0..7 (10_state.md R9); `atHL` is slot 6, the memory byte at `HL`. -/
inductive R8 where
  | B | C | D | E | H | L | atHL | A
deriving DecidableEq, Repr

/-- The pair table `reg16[i]`, i = 0..3 (10_state.md R10). -/
inductive R16 where
  | BC | DE | HL | SP
deriving DecidableEq, Repr

/-- The pair table `reg16s[i]` of `PUSH` and `POP` (10_state.md R10). -/
inductive R16S where
  | BC | DE | HL | AF
deriving DecidableEq, Repr

/-- The condition table `cc[i]` (30_encoding.md R51). -/
inductive Cond where
  | NZ | Z | NC | C
deriving DecidableEq, Repr

/-- The operation table `alu[y]` (30_encoding.md R51). -/
inductive AluOp where
  | add | adc | sub | sbc | and | xor | or | cp
deriving DecidableEq, Repr

/-- The operation table `rot[y]` of the prefixed space (30_encoding.md R51). -/
inductive RotOp where
  | rlc | rrc | rl | rr | sla | sra | swap | srl
deriving DecidableEq, Repr

/-- The forms the instruction rules are written for: one for each rule, with the operands the rule names.
Several constructors of `Instr` (one for each row of the opcode table) have the same form with other operands. -/
inductive Form where
  /-- `LD` between two slots of `reg8`, not both `(HL)`: R58, R60, R61. -/
  | ld8 (d s : R8)
  /-- `LD reg8[y],n`: R59, R62. -/
  | ld8n (d : R8) (n : Byte)
  /-- `LD A,(BC)` and `LD A,(DE)`: R63, R64. -/
  | ldAInd (rr : R16)
  /-- `LD (BC),A` and `LD (DE),A`: R65, R66. -/
  | ldIndA (rr : R16)
  /-- `LD A,(nn)`: R67. -/
  | ldAAbs (nn : Word)
  /-- `LD (nn),A`: R68. -/
  | ldAbsA (nn : Word)
  /-- `LDH A,(n)`: R69. -/
  | ldhAn (n : Byte)
  /-- `LDH (n),A`: R70. -/
  | ldhnA (n : Byte)
  /-- `LDH A,(C)`: R71. -/
  | ldhAC
  /-- `LDH (C),A`: R72. -/
  | ldhCA
  /-- `LD (HL+),A`: R73. -/
  | ldHLincA
  /-- `LD A,(HL+)`: R74. -/
  | ldAHLinc
  /-- `LD (HL-),A`: R75. -/
  | ldHLdecA
  /-- `LD A,(HL-)`: R76. -/
  | ldAHLdec
  /-- `LD rr,nn`: R77. -/
  | ld16 (rr : R16) (nn : Word)
  /-- `LD (nn),SP`: R78. -/
  | ldAbsSP (nn : Word)
  /-- `LD SP,HL`: R79. -/
  | ldSPHL
  /-- `LD HL,SP+e`, `eb` the raw byte: R80. -/
  | ldHLSPe (eb : Byte)
  /-- `PUSH rr`: R83. -/
  | push (rr : R16S)
  /-- `POP rr`: R84. -/
  | pop (rr : R16S)
  /-- `alu[y] reg8[z]`: R85-R93. -/
  | alu (op : AluOp) (src : R8)
  /-- `alu[y] n`: R85-R93. -/
  | aluN (op : AluOp) (n : Byte)
  /-- `INC reg8[y]`: R94. -/
  | inc8 (r : R8)
  /-- `DEC reg8[y]`: R95. -/
  | dec8 (r : R8)
  /-- R96. -/
  | daa
  /-- R97. -/
  | cpl
  /-- R98. -/
  | scf
  /-- R99. -/
  | ccf
  /-- `ADD HL,rr`: R100. -/
  | addHL (rr : R16)
  /-- `INC rr`: R101. -/
  | inc16 (rr : R16)
  /-- `DEC rr`: R102. -/
  | dec16 (rr : R16)
  /-- `ADD SP,e`, `eb` the raw byte: R103. -/
  | addSPe (eb : Byte)
  /-- R104. -/
  | rlca
  /-- R105. -/
  | rrca
  /-- R106. -/
  | rla
  /-- R107. -/
  | rra
  /-- `rot[y] reg8[z]`: R108-R116. -/
  | rot (op : RotOp) (r : R8)
  /-- `BIT b,reg8[z]`: R117. -/
  | bit (b : Fin 8) (r : R8)
  /-- `RES b,reg8[z]`: R118. -/
  | res (b : Fin 8) (r : R8)
  /-- `SET b,reg8[z]`: R119. -/
  | set (b : Fin 8) (r : R8)
  /-- `JP nn`: R121. -/
  | jp (nn : Word)
  /-- `JP cc,nn`: R122. -/
  | jpCond (cc : Cond) (nn : Word)
  /-- `JP HL`: R123. -/
  | jpHL
  /-- `JR e`, `eb` the raw byte: R124. -/
  | jr (eb : Byte)
  /-- `JR cc,e`: R125. -/
  | jrCond (cc : Cond) (eb : Byte)
  /-- `CALL nn`: R126. -/
  | call (nn : Word)
  /-- `CALL cc,nn`: R127. -/
  | callCond (cc : Cond) (nn : Word)
  /-- R128. -/
  | ret
  /-- `RET cc`: R129. -/
  | retCond (cc : Cond)
  /-- R130. -/
  | reti
  /-- `RST 8*y`: R131. -/
  | rst (y : Fin 8)
  /-- R132. -/
  | nop
  /-- R133. -/
  | halt
  /-- R134. -/
  | stop
  /-- R135. -/
  | di
  /-- R136. -/
  | ei
  /-- The prefix byte 0xCB and the second byte it selects by: R137. -/
  | prefixed (op2 : Byte)
  /-- An opcode value that selects no instruction: R138. -/
  | illegal (op : Byte)
deriving DecidableEq, Repr

end Sys2Proof
end

