-- ==== Sys2Proof/Syntax.lean ====
section
/-! DEFINITION. The instructions: one constructor for each mnemonic of spec/opcode_table.json, in the families of files
40-46. Immediates are operands (30_encoding.md R48, R49): `n` an unsigned byte, `eb` the raw byte of a signed displacement,
`nn` a 16-bit immediate. The 32 rows of the prefixed table take the operand `reg8[z]` (30_encoding.md R53). -/

namespace Sys2Proof

/-- One constructor for each row of the opcode table; the eleven `ILLEGAL` rows share one, which holds the opcode byte
(30_encoding.md R54), and `prefixCB` is the row of the prefix byte with the byte that follows it (46_system.md R137).
The constructors with operands come first (Lean's compiler gives a constructor with fields a tag below 244). -/
inductive Instr where
  -- with operands
  -- 8-bit loads and stores (40_load8.md)
  /-- R59: `LD B,n`, 06. -/
  | ld_B_n (n : Byte)
  /-- R59: `LD C,n`, 0E. -/
  | ld_C_n (n : Byte)
  /-- R59: `LD D,n`, 16. -/
  | ld_D_n (n : Byte)
  /-- R59: `LD E,n`, 1E. -/
  | ld_E_n (n : Byte)
  /-- R59: `LD H,n`, 26. -/
  | ld_H_n (n : Byte)
  /-- R59: `LD L,n`, 2E. -/
  | ld_L_n (n : Byte)
  /-- R62: `LD (HL),n`, 36. -/
  | ld_atHL_n (n : Byte)
  /-- R59: `LD A,n`, 3E. -/
  | ld_A_n (n : Byte)
  /-- R70: `LDH (n),A`, E0. -/
  | ldh_atn_A (n : Byte)
  /-- R68: `LD (nn),A`, EA. -/
  | ld_atnn_A (nn : Word)
  /-- R69: `LDH A,(n)`, F0. -/
  | ldh_A_atn (n : Byte)
  /-- R67: `LD A,(nn)`, FA. -/
  | ld_A_atnn (nn : Word)
  -- 16-bit loads and the stack (41_load16_stack.md)
  /-- R77: `LD BC,nn`, 01. -/
  | ld_BC_nn (nn : Word)
  /-- R78: `LD (nn),SP`, 08. -/
  | ld_atnn_SP (nn : Word)
  /-- R77: `LD DE,nn`, 11. -/
  | ld_DE_nn (nn : Word)
  /-- R77: `LD HL,nn`, 21. -/
  | ld_HL_nn (nn : Word)
  /-- R77: `LD SP,nn`, 31. -/
  | ld_SP_nn (nn : Word)
  /-- R80: `LD HL,SP+e`, F8. -/
  | ld_HL_SPe (eb : Byte)
  -- 8-bit arithmetic and logic (42_alu8.md)
  /-- R86: `ADD A,n`, C6. -/
  | add_A_n (n : Byte)
  /-- R87: `ADC A,n`, CE. -/
  | adc_A_n (n : Byte)
  /-- R88: `SUB n`, D6. -/
  | sub_n (n : Byte)
  /-- R89: `SBC A,n`, DE. -/
  | sbc_A_n (n : Byte)
  /-- R90: `AND n`, E6. -/
  | and_n (n : Byte)
  /-- R91: `XOR n`, EE. -/
  | xor_n (n : Byte)
  /-- R92: `OR n`, F6. -/
  | or_n (n : Byte)
  /-- R93: `CP n`, FE. -/
  | cp_n (n : Byte)
  -- 16-bit arithmetic (43_alu16.md)
  /-- R103: `ADD SP,e`, E8. -/
  | add_SP_e (eb : Byte)
  -- the prefixed table (44_rotate_shift_bit.md section 2)
  /-- R109: `RLC r`, CB 00-07. -/
  | rlc (r : R8)
  /-- R110: `RRC r`, CB 08-0F. -/
  | rrc (r : R8)
  /-- R111: `RL r`, CB 10-17. -/
  | rl (r : R8)
  /-- R112: `RR r`, CB 18-1F. -/
  | rr (r : R8)
  /-- R113: `SLA r`, CB 20-27. -/
  | sla (r : R8)
  /-- R114: `SRA r`, CB 28-2F. -/
  | sra (r : R8)
  /-- R115: `SWAP r`, CB 30-37. -/
  | swap (r : R8)
  /-- R116: `SRL r`, CB 38-3F. -/
  | srl (r : R8)
  /-- R117: `BIT 0,r`, CB 40-47. -/
  | bit_0 (r : R8)
  /-- R117: `BIT 1,r`, CB 48-4F. -/
  | bit_1 (r : R8)
  /-- R117: `BIT 2,r`, CB 50-57. -/
  | bit_2 (r : R8)
  /-- R117: `BIT 3,r`, CB 58-5F. -/
  | bit_3 (r : R8)
  /-- R117: `BIT 4,r`, CB 60-67. -/
  | bit_4 (r : R8)
  /-- R117: `BIT 5,r`, CB 68-6F. -/
  | bit_5 (r : R8)
  /-- R117: `BIT 6,r`, CB 70-77. -/
  | bit_6 (r : R8)
  /-- R117: `BIT 7,r`, CB 78-7F. -/
  | bit_7 (r : R8)
  /-- R118: `RES 0,r`, CB 80-87. -/
  | res_0 (r : R8)
  /-- R118: `RES 1,r`, CB 88-8F. -/
  | res_1 (r : R8)
  /-- R118: `RES 2,r`, CB 90-97. -/
  | res_2 (r : R8)
  /-- R118: `RES 3,r`, CB 98-9F. -/
  | res_3 (r : R8)
  /-- R118: `RES 4,r`, CB A0-A7. -/
  | res_4 (r : R8)
  /-- R118: `RES 5,r`, CB A8-AF. -/
  | res_5 (r : R8)
  /-- R118: `RES 6,r`, CB B0-B7. -/
  | res_6 (r : R8)
  /-- R118: `RES 7,r`, CB B8-BF. -/
  | res_7 (r : R8)
  /-- R119: `SET 0,r`, CB C0-C7. -/
  | set_0 (r : R8)
  /-- R119: `SET 1,r`, CB C8-CF. -/
  | set_1 (r : R8)
  /-- R119: `SET 2,r`, CB D0-D7. -/
  | set_2 (r : R8)
  /-- R119: `SET 3,r`, CB D8-DF. -/
  | set_3 (r : R8)
  /-- R119: `SET 4,r`, CB E0-E7. -/
  | set_4 (r : R8)
  /-- R119: `SET 5,r`, CB E8-EF. -/
  | set_5 (r : R8)
  /-- R119: `SET 6,r`, CB F0-F7. -/
  | set_6 (r : R8)
  /-- R119: `SET 7,r`, CB F8-FF. -/
  | set_7 (r : R8)
  -- control transfer (45_control_flow.md)
  /-- R124: `JR e`, 18. -/
  | jr_e (eb : Byte)
  /-- R125: `JR NZ,e`, 20. -/
  | jr_NZ_e (eb : Byte)
  /-- R125: `JR Z,e`, 28. -/
  | jr_Z_e (eb : Byte)
  /-- R125: `JR NC,e`, 30. -/
  | jr_NC_e (eb : Byte)
  /-- R125: `JR C,e`, 38. -/
  | jr_C_e (eb : Byte)
  /-- R122: `JP NZ,nn`, C2. -/
  | jp_NZ_nn (nn : Word)
  /-- R121: `JP nn`, C3. -/
  | jp_nn (nn : Word)
  /-- R127: `CALL NZ,nn`, C4. -/
  | call_NZ_nn (nn : Word)
  /-- R122: `JP Z,nn`, CA. -/
  | jp_Z_nn (nn : Word)
  /-- R127: `CALL Z,nn`, CC. -/
  | call_Z_nn (nn : Word)
  /-- R126: `CALL nn`, CD. -/
  | call_nn (nn : Word)
  /-- R122: `JP NC,nn`, D2. -/
  | jp_NC_nn (nn : Word)
  /-- R127: `CALL NC,nn`, D4. -/
  | call_NC_nn (nn : Word)
  /-- R122: `JP C,nn`, DA. -/
  | jp_C_nn (nn : Word)
  /-- R127: `CALL C,nn`, DC. -/
  | call_C_nn (nn : Word)
  -- system instructions, the prefix byte, undefined opcodes (46_system.md)
  /-- R137: `PREFIX CB`, CB. -/
  | prefixCB (op2 : Byte)
  /-- R138: `ILLEGAL`, D3 DB DD E3 E4 EB EC ED F4 FC FD. -/
  | illegal (op : Byte)
  -- without operands
  -- 8-bit loads and stores (40_load8.md)
  /-- R65: `LD (BC),A`, 02. -/
  | ld_atBC_A
  /-- R63: `LD A,(BC)`, 0A. -/
  | ld_A_atBC
  /-- R66: `LD (DE),A`, 12. -/
  | ld_atDE_A
  /-- R64: `LD A,(DE)`, 1A. -/
  | ld_A_atDE
  /-- R73: `LD (HL+),A`, 22. -/
  | ld_atHLinc_A
  /-- R74: `LD A,(HL+)`, 2A. -/
  | ld_A_atHLinc
  /-- R75: `LD (HL-),A`, 32. -/
  | ld_atHLdec_A
  /-- R76: `LD A,(HL-)`, 3A. -/
  | ld_A_atHLdec
  /-- R58: `LD B,B`, 40. -/
  | ld_B_B
  /-- R58: `LD B,C`, 41. -/
  | ld_B_C
  /-- R58: `LD B,D`, 42. -/
  | ld_B_D
  /-- R58: `LD B,E`, 43. -/
  | ld_B_E
  /-- R58: `LD B,H`, 44. -/
  | ld_B_H
  /-- R58: `LD B,L`, 45. -/
  | ld_B_L
  /-- R60: `LD B,(HL)`, 46. -/
  | ld_B_atHL
  /-- R58: `LD B,A`, 47. -/
  | ld_B_A
  /-- R58: `LD C,B`, 48. -/
  | ld_C_B
  /-- R58: `LD C,C`, 49. -/
  | ld_C_C
  /-- R58: `LD C,D`, 4A. -/
  | ld_C_D
  /-- R58: `LD C,E`, 4B. -/
  | ld_C_E
  /-- R58: `LD C,H`, 4C. -/
  | ld_C_H
  /-- R58: `LD C,L`, 4D. -/
  | ld_C_L
  /-- R60: `LD C,(HL)`, 4E. -/
  | ld_C_atHL
  /-- R58: `LD C,A`, 4F. -/
  | ld_C_A
  /-- R58: `LD D,B`, 50. -/
  | ld_D_B
  /-- R58: `LD D,C`, 51. -/
  | ld_D_C
  /-- R58: `LD D,D`, 52. -/
  | ld_D_D
  /-- R58: `LD D,E`, 53. -/
  | ld_D_E
  /-- R58: `LD D,H`, 54. -/
  | ld_D_H
  /-- R58: `LD D,L`, 55. -/
  | ld_D_L
  /-- R60: `LD D,(HL)`, 56. -/
  | ld_D_atHL
  /-- R58: `LD D,A`, 57. -/
  | ld_D_A
  /-- R58: `LD E,B`, 58. -/
  | ld_E_B
  /-- R58: `LD E,C`, 59. -/
  | ld_E_C
  /-- R58: `LD E,D`, 5A. -/
  | ld_E_D
  /-- R58: `LD E,E`, 5B. -/
  | ld_E_E
  /-- R58: `LD E,H`, 5C. -/
  | ld_E_H
  /-- R58: `LD E,L`, 5D. -/
  | ld_E_L
  /-- R60: `LD E,(HL)`, 5E. -/
  | ld_E_atHL
  /-- R58: `LD E,A`, 5F. -/
  | ld_E_A
  /-- R58: `LD H,B`, 60. -/
  | ld_H_B
  /-- R58: `LD H,C`, 61. -/
  | ld_H_C
  /-- R58: `LD H,D`, 62. -/
  | ld_H_D
  /-- R58: `LD H,E`, 63. -/
  | ld_H_E
  /-- R58: `LD H,H`, 64. -/
  | ld_H_H
  /-- R58: `LD H,L`, 65. -/
  | ld_H_L
  /-- R60: `LD H,(HL)`, 66. -/
  | ld_H_atHL
  /-- R58: `LD H,A`, 67. -/
  | ld_H_A
  /-- R58: `LD L,B`, 68. -/
  | ld_L_B
  /-- R58: `LD L,C`, 69. -/
  | ld_L_C
  /-- R58: `LD L,D`, 6A. -/
  | ld_L_D
  /-- R58: `LD L,E`, 6B. -/
  | ld_L_E
  /-- R58: `LD L,H`, 6C. -/
  | ld_L_H
  /-- R58: `LD L,L`, 6D. -/
  | ld_L_L
  /-- R60: `LD L,(HL)`, 6E. -/
  | ld_L_atHL
  /-- R58: `LD L,A`, 6F. -/
  | ld_L_A
  /-- R61: `LD (HL),B`, 70. -/
  | ld_atHL_B
  /-- R61: `LD (HL),C`, 71. -/
  | ld_atHL_C
  /-- R61: `LD (HL),D`, 72. -/
  | ld_atHL_D
  /-- R61: `LD (HL),E`, 73. -/
  | ld_atHL_E
  /-- R61: `LD (HL),H`, 74. -/
  | ld_atHL_H
  /-- R61: `LD (HL),L`, 75. -/
  | ld_atHL_L
  /-- R61: `LD (HL),A`, 77. -/
  | ld_atHL_A
  /-- R58: `LD A,B`, 78. -/
  | ld_A_B
  /-- R58: `LD A,C`, 79. -/
  | ld_A_C
  /-- R58: `LD A,D`, 7A. -/
  | ld_A_D
  /-- R58: `LD A,E`, 7B. -/
  | ld_A_E
  /-- R58: `LD A,H`, 7C. -/
  | ld_A_H
  /-- R58: `LD A,L`, 7D. -/
  | ld_A_L
  /-- R60: `LD A,(HL)`, 7E. -/
  | ld_A_atHL
  /-- R58: `LD A,A`, 7F. -/
  | ld_A_A
  /-- R72: `LDH (C),A`, E2. -/
  | ldh_atC_A
  /-- R71: `LDH A,(C)`, F2. -/
  | ldh_A_atC
  -- 16-bit loads and the stack (41_load16_stack.md)
  /-- R84: `POP BC`, C1. -/
  | pop_BC
  /-- R83: `PUSH BC`, C5. -/
  | push_BC
  /-- R84: `POP DE`, D1. -/
  | pop_DE
  /-- R83: `PUSH DE`, D5. -/
  | push_DE
  /-- R84: `POP HL`, E1. -/
  | pop_HL
  /-- R83: `PUSH HL`, E5. -/
  | push_HL
  /-- R84: `POP AF`, F1. -/
  | pop_AF
  /-- R83: `PUSH AF`, F5. -/
  | push_AF
  /-- R79: `LD SP,HL`, F9. -/
  | ld_SP_HL
  -- 8-bit arithmetic and logic (42_alu8.md)
  /-- R94: `INC B`, 04. -/
  | inc_B
  /-- R95: `DEC B`, 05. -/
  | dec_B
  /-- R94: `INC C`, 0C. -/
  | inc_C
  /-- R95: `DEC C`, 0D. -/
  | dec_C
  /-- R94: `INC D`, 14. -/
  | inc_D
  /-- R95: `DEC D`, 15. -/
  | dec_D
  /-- R94: `INC E`, 1C. -/
  | inc_E
  /-- R95: `DEC E`, 1D. -/
  | dec_E
  /-- R94: `INC H`, 24. -/
  | inc_H
  /-- R95: `DEC H`, 25. -/
  | dec_H
  /-- R96: `DAA`, 27. -/
  | daa
  /-- R94: `INC L`, 2C. -/
  | inc_L
  /-- R95: `DEC L`, 2D. -/
  | dec_L
  /-- R97: `CPL`, 2F. -/
  | cpl
  /-- R94: `INC (HL)`, 34. -/
  | inc_atHL
  /-- R95: `DEC (HL)`, 35. -/
  | dec_atHL
  /-- R98: `SCF`, 37. -/
  | scf
  /-- R94: `INC A`, 3C. -/
  | inc_A
  /-- R95: `DEC A`, 3D. -/
  | dec_A
  /-- R99: `CCF`, 3F. -/
  | ccf
  /-- R86: `ADD A,B`, 80. -/
  | add_A_B
  /-- R86: `ADD A,C`, 81. -/
  | add_A_C
  /-- R86: `ADD A,D`, 82. -/
  | add_A_D
  /-- R86: `ADD A,E`, 83. -/
  | add_A_E
  /-- R86: `ADD A,H`, 84. -/
  | add_A_H
  /-- R86: `ADD A,L`, 85. -/
  | add_A_L
  /-- R86: `ADD A,(HL)`, 86. -/
  | add_A_atHL
  /-- R86: `ADD A,A`, 87. -/
  | add_A_A
  /-- R87: `ADC A,B`, 88. -/
  | adc_A_B
  /-- R87: `ADC A,C`, 89. -/
  | adc_A_C
  /-- R87: `ADC A,D`, 8A. -/
  | adc_A_D
  /-- R87: `ADC A,E`, 8B. -/
  | adc_A_E
  /-- R87: `ADC A,H`, 8C. -/
  | adc_A_H
  /-- R87: `ADC A,L`, 8D. -/
  | adc_A_L
  /-- R87: `ADC A,(HL)`, 8E. -/
  | adc_A_atHL
  /-- R87: `ADC A,A`, 8F. -/
  | adc_A_A
  /-- R88: `SUB B`, 90. -/
  | sub_B
  /-- R88: `SUB C`, 91. -/
  | sub_C
  /-- R88: `SUB D`, 92. -/
  | sub_D
  /-- R88: `SUB E`, 93. -/
  | sub_E
  /-- R88: `SUB H`, 94. -/
  | sub_H
  /-- R88: `SUB L`, 95. -/
  | sub_L
  /-- R88: `SUB (HL)`, 96. -/
  | sub_atHL
  /-- R88: `SUB A`, 97. -/
  | sub_A
  /-- R89: `SBC A,B`, 98. -/
  | sbc_A_B
  /-- R89: `SBC A,C`, 99. -/
  | sbc_A_C
  /-- R89: `SBC A,D`, 9A. -/
  | sbc_A_D
  /-- R89: `SBC A,E`, 9B. -/
  | sbc_A_E
  /-- R89: `SBC A,H`, 9C. -/
  | sbc_A_H
  /-- R89: `SBC A,L`, 9D. -/
  | sbc_A_L
  /-- R89: `SBC A,(HL)`, 9E. -/
  | sbc_A_atHL
  /-- R89: `SBC A,A`, 9F. -/
  | sbc_A_A
  /-- R90: `AND B`, A0. -/
  | and_B
  /-- R90: `AND C`, A1. -/
  | and_C
  /-- R90: `AND D`, A2. -/
  | and_D
  /-- R90: `AND E`, A3. -/
  | and_E
  /-- R90: `AND H`, A4. -/
  | and_H
  /-- R90: `AND L`, A5. -/
  | and_L
  /-- R90: `AND (HL)`, A6. -/
  | and_atHL
  /-- R90: `AND A`, A7. -/
  | and_A
  /-- R91: `XOR B`, A8. -/
  | xor_B
  /-- R91: `XOR C`, A9. -/
  | xor_C
  /-- R91: `XOR D`, AA. -/
  | xor_D
  /-- R91: `XOR E`, AB. -/
  | xor_E
  /-- R91: `XOR H`, AC. -/
  | xor_H
  /-- R91: `XOR L`, AD. -/
  | xor_L
  /-- R91: `XOR (HL)`, AE. -/
  | xor_atHL
  /-- R91: `XOR A`, AF. -/
  | xor_A
  /-- R92: `OR B`, B0. -/
  | or_B
  /-- R92: `OR C`, B1. -/
  | or_C
  /-- R92: `OR D`, B2. -/
  | or_D
  /-- R92: `OR E`, B3. -/
  | or_E
  /-- R92: `OR H`, B4. -/
  | or_H
  /-- R92: `OR L`, B5. -/
  | or_L
  /-- R92: `OR (HL)`, B6. -/
  | or_atHL
  /-- R92: `OR A`, B7. -/
  | or_A
  /-- R93: `CP B`, B8. -/
  | cp_B
  /-- R93: `CP C`, B9. -/
  | cp_C
  /-- R93: `CP D`, BA. -/
  | cp_D
  /-- R93: `CP E`, BB. -/
  | cp_E
  /-- R93: `CP H`, BC. -/
  | cp_H
  /-- R93: `CP L`, BD. -/
  | cp_L
  /-- R93: `CP (HL)`, BE. -/
  | cp_atHL
  /-- R93: `CP A`, BF. -/
  | cp_A
  -- 16-bit arithmetic (43_alu16.md)
  /-- R101: `INC BC`, 03. -/
  | inc_BC
  /-- R100: `ADD HL,BC`, 09. -/
  | add_HL_BC
  /-- R102: `DEC BC`, 0B. -/
  | dec_BC
  /-- R101: `INC DE`, 13. -/
  | inc_DE
  /-- R100: `ADD HL,DE`, 19. -/
  | add_HL_DE
  /-- R102: `DEC DE`, 1B. -/
  | dec_DE
  /-- R101: `INC HL`, 23. -/
  | inc_HL
  /-- R100: `ADD HL,HL`, 29. -/
  | add_HL_HL
  /-- R102: `DEC HL`, 2B. -/
  | dec_HL
  /-- R101: `INC SP`, 33. -/
  | inc_SP
  /-- R100: `ADD HL,SP`, 39. -/
  | add_HL_SP
  /-- R102: `DEC SP`, 3B. -/
  | dec_SP
  -- accumulator rotates (44_rotate_shift_bit.md section 1)
  /-- R104: `RLCA`, 07. -/
  | rlca
  /-- R105: `RRCA`, 0F. -/
  | rrca
  /-- R106: `RLA`, 17. -/
  | rla
  /-- R107: `RRA`, 1F. -/
  | rra
  -- control transfer (45_control_flow.md)
  /-- R129: `RET NZ`, C0. -/
  | ret_NZ
  /-- R131: `RST 00H`, C7. -/
  | rst_00H
  /-- R129: `RET Z`, C8. -/
  | ret_Z
  /-- R128: `RET`, C9. -/
  | ret
  /-- R131: `RST 08H`, CF. -/
  | rst_08H
  /-- R129: `RET NC`, D0. -/
  | ret_NC
  /-- R131: `RST 10H`, D7. -/
  | rst_10H
  /-- R129: `RET C`, D8. -/
  | ret_C
  /-- R130: `RETI`, D9. -/
  | reti
  /-- R131: `RST 18H`, DF. -/
  | rst_18H
  /-- R131: `RST 20H`, E7. -/
  | rst_20H
  /-- R123: `JP HL`, E9. -/
  | jp_HL
  /-- R131: `RST 28H`, EF. -/
  | rst_28H
  /-- R131: `RST 30H`, F7. -/
  | rst_30H
  /-- R131: `RST 38H`, FF. -/
  | rst_38H
  -- system instructions, the prefix byte, undefined opcodes (46_system.md)
  /-- R132: `NOP`, 00. -/
  | nop
  /-- R134: `STOP`, 10. -/
  | stop
  /-- R133: `HALT`, 76. -/
  | halt
  /-- R135: `DI`, F3. -/
  | di
  /-- R136: `EI`, FB. -/
  | ei
deriving DecidableEq, Repr

end Sys2Proof
end

