-- ==== Sys2Proof/WellFormed.lean ====
section
/-! DEFINITION. Which terms of `Instr` stand for an instruction of the machine. Register numbers, bit numbers, conditions
and immediates are right by their types; two constructors need a check. -/

namespace Sys2Proof

/-- The eleven opcode values that select no instruction (30_encoding.md R54). -/
def illegalOpcodes : List Byte :=
  [0xD3, 0xDB, 0xDD, 0xE3, 0xE4, 0xEB, 0xEC, 0xED, 0xF4, 0xFC, 0xFD]

/-- `ILLEGAL` holds one of the eleven values of 30_encoding.md R54, and the prefix byte "is not an instruction"
(46_system.md R137): with the byte after it, it is the prefixed instruction that byte selects (log 9). -/
def Instr.wf : Instr → Bool
  | .nop => true
  | .ld_BC_nn _ => true
  | .ld_atBC_A => true
  | .inc_BC => true
  | .inc_B => true
  | .dec_B => true
  | .ld_B_n _ => true
  | .rlca => true
  | .ld_atnn_SP _ => true
  | .add_HL_BC => true
  | .ld_A_atBC => true
  | .dec_BC => true
  | .inc_C => true
  | .dec_C => true
  | .ld_C_n _ => true
  | .rrca => true
  | .stop => true
  | .ld_DE_nn _ => true
  | .ld_atDE_A => true
  | .inc_DE => true
  | .inc_D => true
  | .dec_D => true
  | .ld_D_n _ => true
  | .rla => true
  | .jr_e _ => true
  | .add_HL_DE => true
  | .ld_A_atDE => true
  | .dec_DE => true
  | .inc_E => true
  | .dec_E => true
  | .ld_E_n _ => true
  | .rra => true
  | .jr_NZ_e _ => true
  | .ld_HL_nn _ => true
  | .ld_atHLinc_A => true
  | .inc_HL => true
  | .inc_H => true
  | .dec_H => true
  | .ld_H_n _ => true
  | .daa => true
  | .jr_Z_e _ => true
  | .add_HL_HL => true
  | .ld_A_atHLinc => true
  | .dec_HL => true
  | .inc_L => true
  | .dec_L => true
  | .ld_L_n _ => true
  | .cpl => true
  | .jr_NC_e _ => true
  | .ld_SP_nn _ => true
  | .ld_atHLdec_A => true
  | .inc_SP => true
  | .inc_atHL => true
  | .dec_atHL => true
  | .ld_atHL_n _ => true
  | .scf => true
  | .jr_C_e _ => true
  | .add_HL_SP => true
  | .ld_A_atHLdec => true
  | .dec_SP => true
  | .inc_A => true
  | .dec_A => true
  | .ld_A_n _ => true
  | .ccf => true
  | .ld_B_B => true
  | .ld_B_C => true
  | .ld_B_D => true
  | .ld_B_E => true
  | .ld_B_H => true
  | .ld_B_L => true
  | .ld_B_atHL => true
  | .ld_B_A => true
  | .ld_C_B => true
  | .ld_C_C => true
  | .ld_C_D => true
  | .ld_C_E => true
  | .ld_C_H => true
  | .ld_C_L => true
  | .ld_C_atHL => true
  | .ld_C_A => true
  | .ld_D_B => true
  | .ld_D_C => true
  | .ld_D_D => true
  | .ld_D_E => true
  | .ld_D_H => true
  | .ld_D_L => true
  | .ld_D_atHL => true
  | .ld_D_A => true
  | .ld_E_B => true
  | .ld_E_C => true
  | .ld_E_D => true
  | .ld_E_E => true
  | .ld_E_H => true
  | .ld_E_L => true
  | .ld_E_atHL => true
  | .ld_E_A => true
  | .ld_H_B => true
  | .ld_H_C => true
  | .ld_H_D => true
  | .ld_H_E => true
  | .ld_H_H => true
  | .ld_H_L => true
  | .ld_H_atHL => true
  | .ld_H_A => true
  | .ld_L_B => true
  | .ld_L_C => true
  | .ld_L_D => true
  | .ld_L_E => true
  | .ld_L_H => true
  | .ld_L_L => true
  | .ld_L_atHL => true
  | .ld_L_A => true
  | .ld_atHL_B => true
  | .ld_atHL_C => true
  | .ld_atHL_D => true
  | .ld_atHL_E => true
  | .ld_atHL_H => true
  | .ld_atHL_L => true
  | .halt => true
  | .ld_atHL_A => true
  | .ld_A_B => true
  | .ld_A_C => true
  | .ld_A_D => true
  | .ld_A_E => true
  | .ld_A_H => true
  | .ld_A_L => true
  | .ld_A_atHL => true
  | .ld_A_A => true
  | .add_A_B => true
  | .add_A_C => true
  | .add_A_D => true
  | .add_A_E => true
  | .add_A_H => true
  | .add_A_L => true
  | .add_A_atHL => true
  | .add_A_A => true
  | .adc_A_B => true
  | .adc_A_C => true
  | .adc_A_D => true
  | .adc_A_E => true
  | .adc_A_H => true
  | .adc_A_L => true
  | .adc_A_atHL => true
  | .adc_A_A => true
  | .sub_B => true
  | .sub_C => true
  | .sub_D => true
  | .sub_E => true
  | .sub_H => true
  | .sub_L => true
  | .sub_atHL => true
  | .sub_A => true
  | .sbc_A_B => true
  | .sbc_A_C => true
  | .sbc_A_D => true
  | .sbc_A_E => true
  | .sbc_A_H => true
  | .sbc_A_L => true
  | .sbc_A_atHL => true
  | .sbc_A_A => true
  | .and_B => true
  | .and_C => true
  | .and_D => true
  | .and_E => true
  | .and_H => true
  | .and_L => true
  | .and_atHL => true
  | .and_A => true
  | .xor_B => true
  | .xor_C => true
  | .xor_D => true
  | .xor_E => true
  | .xor_H => true
  | .xor_L => true
  | .xor_atHL => true
  | .xor_A => true
  | .or_B => true
  | .or_C => true
  | .or_D => true
  | .or_E => true
  | .or_H => true
  | .or_L => true
  | .or_atHL => true
  | .or_A => true
  | .cp_B => true
  | .cp_C => true
  | .cp_D => true
  | .cp_E => true
  | .cp_H => true
  | .cp_L => true
  | .cp_atHL => true
  | .cp_A => true
  | .ret_NZ => true
  | .pop_BC => true
  | .jp_NZ_nn _ => true
  | .jp_nn _ => true
  | .call_NZ_nn _ => true
  | .push_BC => true
  | .add_A_n _ => true
  | .rst_00H => true
  | .ret_Z => true
  | .ret => true
  | .jp_Z_nn _ => true
  | .prefixCB _ => false
  | .call_Z_nn _ => true
  | .call_nn _ => true
  | .adc_A_n _ => true
  | .rst_08H => true
  | .ret_NC => true
  | .pop_DE => true
  | .jp_NC_nn _ => true
  | .illegal op => illegalOpcodes.contains op
  | .call_NC_nn _ => true
  | .push_DE => true
  | .sub_n _ => true
  | .rst_10H => true
  | .ret_C => true
  | .reti => true
  | .jp_C_nn _ => true
  | .call_C_nn _ => true
  | .sbc_A_n _ => true
  | .rst_18H => true
  | .ldh_atn_A _ => true
  | .pop_HL => true
  | .ldh_atC_A => true
  | .push_HL => true
  | .and_n _ => true
  | .rst_20H => true
  | .add_SP_e _ => true
  | .jp_HL => true
  | .ld_atnn_A _ => true
  | .xor_n _ => true
  | .rst_28H => true
  | .ldh_A_atn _ => true
  | .pop_AF => true
  | .ldh_A_atC => true
  | .di => true
  | .push_AF => true
  | .or_n _ => true
  | .rst_30H => true
  | .ld_HL_SPe _ => true
  | .ld_SP_HL => true
  | .ld_A_atnn _ => true
  | .ei => true
  | .cp_n _ => true
  | .rst_38H => true
  | .rlc _ => true
  | .rrc _ => true
  | .rl _ => true
  | .rr _ => true
  | .sla _ => true
  | .sra _ => true
  | .swap _ => true
  | .srl _ => true
  | .bit_0 _ => true
  | .bit_1 _ => true
  | .bit_2 _ => true
  | .bit_3 _ => true
  | .bit_4 _ => true
  | .bit_5 _ => true
  | .bit_6 _ => true
  | .bit_7 _ => true
  | .res_0 _ => true
  | .res_1 _ => true
  | .res_2 _ => true
  | .res_3 _ => true
  | .res_4 _ => true
  | .res_5 _ => true
  | .res_6 _ => true
  | .res_7 _ => true
  | .set_0 _ => true
  | .set_1 _ => true
  | .set_2 _ => true
  | .set_3 _ => true
  | .set_4 _ => true
  | .set_5 _ => true
  | .set_6 _ => true
  | .set_7 _ => true

end Sys2Proof
end

