-- ==== Sys2Proof/Decode.lean ====
section
/-! DEFINITION. The encoding (30_encoding.md): the sub-field tables, the two flat dispatches (256 unprefixed values, 256
prefixed values), the decoder on any bytes, and after it the encoder. -/

namespace Sys2Proof

/-! ### Byte order (20_memory.md R23) -/

/-- `hi:lo`. -/
def wordOf (hi lo : Byte) : Word := hi ++ lo

/-- Bits 7:0. -/
def loByte (w : Word) : Byte := w.extractLsb' 0 8

/-- Bits 15:8. -/
def hiByte (w : Word) : Byte := w.extractLsb' 8 8

/-! ### Sub-field tables (10_state.md R9, R10; 30_encoding.md R51) -/

/-- `reg8[i]`. -/
def R8.ofIndex : Nat → R8
  | 0 => .B | 1 => .C | 2 => .D | 3 => .E | 4 => .H | 5 => .L | 6 => .atHL | _ => .A

/-- The index of a slot of `reg8`. -/
def R8.index : R8 → Nat
  | .B => 0 | .C => 1 | .D => 2 | .E => 3 | .H => 4 | .L => 5 | .atHL => 6 | .A => 7

/-- `reg16[i]`. -/
def R16.ofIndex : Nat → R16
  | 0 => .BC | 1 => .DE | 2 => .HL | _ => .SP

/-- `reg16s[i]`. -/
def R16S.ofIndex : Nat → R16S
  | 0 => .BC | 1 => .DE | 2 => .HL | _ => .AF

/-- `cc[i]`. -/
def Cond.ofIndex : Nat → Cond
  | 0 => .NZ | 1 => .Z | 2 => .NC | _ => .C

/-- `alu[y]`. -/
def AluOp.ofIndex : Nat → AluOp
  | 0 => .add | 1 => .adc | 2 => .sub | 3 => .sbc | 4 => .and | 5 => .xor | 6 => .or | _ => .cp

/-- `rot[y]`. -/
def RotOp.ofIndex : Nat → RotOp
  | 0 => .rlc | 1 => .rrc | 2 => .rl | 3 => .rr | 4 => .sla | 5 => .sra | 6 => .swap | _ => .srl

/-! ### The unprefixed dispatch (30_encoding.md R52) -/

/-- What a first byte selects: the format (30_encoding.md R48) and the instruction, once its immediates are known. -/
inductive Row where
  | op (i : Instr)
  | opN (mk : Byte → Instr)
  | opNN (mk : Word → Instr)
  | cbOp

/-- First bytes 0x00-0x0F. -/
def rows0 : List Row :=
  [ .op .nop, .opNN .ld_BC_nn, .op .ld_atBC_A, .op .inc_BC,
    .op .inc_B, .op .dec_B, .opN .ld_B_n, .op .rlca,
    .opNN .ld_atnn_SP, .op .add_HL_BC, .op .ld_A_atBC, .op .dec_BC,
    .op .inc_C, .op .dec_C, .opN .ld_C_n, .op .rrca ]

/-- First bytes 0x10-0x1F. -/
def rows1 : List Row :=
  [ .op .stop, .opNN .ld_DE_nn, .op .ld_atDE_A, .op .inc_DE,
    .op .inc_D, .op .dec_D, .opN .ld_D_n, .op .rla,
    .opN .jr_e, .op .add_HL_DE, .op .ld_A_atDE, .op .dec_DE,
    .op .inc_E, .op .dec_E, .opN .ld_E_n, .op .rra ]

/-- First bytes 0x20-0x2F. -/
def rows2 : List Row :=
  [ .opN .jr_NZ_e, .opNN .ld_HL_nn, .op .ld_atHLinc_A, .op .inc_HL,
    .op .inc_H, .op .dec_H, .opN .ld_H_n, .op .daa,
    .opN .jr_Z_e, .op .add_HL_HL, .op .ld_A_atHLinc, .op .dec_HL,
    .op .inc_L, .op .dec_L, .opN .ld_L_n, .op .cpl ]

/-- First bytes 0x30-0x3F. -/
def rows3 : List Row :=
  [ .opN .jr_NC_e, .opNN .ld_SP_nn, .op .ld_atHLdec_A, .op .inc_SP,
    .op .inc_atHL, .op .dec_atHL, .opN .ld_atHL_n, .op .scf,
    .opN .jr_C_e, .op .add_HL_SP, .op .ld_A_atHLdec, .op .dec_SP,
    .op .inc_A, .op .dec_A, .opN .ld_A_n, .op .ccf ]

/-- First bytes 0x40-0x4F. -/
def rows4 : List Row :=
  [ .op .ld_B_B, .op .ld_B_C, .op .ld_B_D, .op .ld_B_E,
    .op .ld_B_H, .op .ld_B_L, .op .ld_B_atHL, .op .ld_B_A,
    .op .ld_C_B, .op .ld_C_C, .op .ld_C_D, .op .ld_C_E,
    .op .ld_C_H, .op .ld_C_L, .op .ld_C_atHL, .op .ld_C_A ]

/-- First bytes 0x50-0x5F. -/
def rows5 : List Row :=
  [ .op .ld_D_B, .op .ld_D_C, .op .ld_D_D, .op .ld_D_E,
    .op .ld_D_H, .op .ld_D_L, .op .ld_D_atHL, .op .ld_D_A,
    .op .ld_E_B, .op .ld_E_C, .op .ld_E_D, .op .ld_E_E,
    .op .ld_E_H, .op .ld_E_L, .op .ld_E_atHL, .op .ld_E_A ]

/-- First bytes 0x60-0x6F. -/
def rows6 : List Row :=
  [ .op .ld_H_B, .op .ld_H_C, .op .ld_H_D, .op .ld_H_E,
    .op .ld_H_H, .op .ld_H_L, .op .ld_H_atHL, .op .ld_H_A,
    .op .ld_L_B, .op .ld_L_C, .op .ld_L_D, .op .ld_L_E,
    .op .ld_L_H, .op .ld_L_L, .op .ld_L_atHL, .op .ld_L_A ]

/-- First bytes 0x70-0x7F. -/
def rows7 : List Row :=
  [ .op .ld_atHL_B, .op .ld_atHL_C, .op .ld_atHL_D, .op .ld_atHL_E,
    .op .ld_atHL_H, .op .ld_atHL_L, .op .halt, .op .ld_atHL_A,
    .op .ld_A_B, .op .ld_A_C, .op .ld_A_D, .op .ld_A_E,
    .op .ld_A_H, .op .ld_A_L, .op .ld_A_atHL, .op .ld_A_A ]

/-- First bytes 0x80-0x8F. -/
def rows8 : List Row :=
  [ .op .add_A_B, .op .add_A_C, .op .add_A_D, .op .add_A_E,
    .op .add_A_H, .op .add_A_L, .op .add_A_atHL, .op .add_A_A,
    .op .adc_A_B, .op .adc_A_C, .op .adc_A_D, .op .adc_A_E,
    .op .adc_A_H, .op .adc_A_L, .op .adc_A_atHL, .op .adc_A_A ]

/-- First bytes 0x90-0x9F. -/
def rows9 : List Row :=
  [ .op .sub_B, .op .sub_C, .op .sub_D, .op .sub_E,
    .op .sub_H, .op .sub_L, .op .sub_atHL, .op .sub_A,
    .op .sbc_A_B, .op .sbc_A_C, .op .sbc_A_D, .op .sbc_A_E,
    .op .sbc_A_H, .op .sbc_A_L, .op .sbc_A_atHL, .op .sbc_A_A ]

/-- First bytes 0xA0-0xAF. -/
def rowsA : List Row :=
  [ .op .and_B, .op .and_C, .op .and_D, .op .and_E,
    .op .and_H, .op .and_L, .op .and_atHL, .op .and_A,
    .op .xor_B, .op .xor_C, .op .xor_D, .op .xor_E,
    .op .xor_H, .op .xor_L, .op .xor_atHL, .op .xor_A ]

/-- First bytes 0xB0-0xBF. -/
def rowsB : List Row :=
  [ .op .or_B, .op .or_C, .op .or_D, .op .or_E,
    .op .or_H, .op .or_L, .op .or_atHL, .op .or_A,
    .op .cp_B, .op .cp_C, .op .cp_D, .op .cp_E,
    .op .cp_H, .op .cp_L, .op .cp_atHL, .op .cp_A ]

/-- First bytes 0xC0-0xCF. -/
def rowsC : List Row :=
  [ .op .ret_NZ, .op .pop_BC, .opNN .jp_NZ_nn, .opNN .jp_nn,
    .opNN .call_NZ_nn, .op .push_BC, .opN .add_A_n, .op .rst_00H,
    .op .ret_Z, .op .ret, .opNN .jp_Z_nn, .cbOp,
    .opNN .call_Z_nn, .opNN .call_nn, .opN .adc_A_n, .op .rst_08H ]

/-- First bytes 0xD0-0xDF. -/
def rowsD : List Row :=
  [ .op .ret_NC, .op .pop_DE, .opNN .jp_NC_nn, .op (.illegal 0xD3),
    .opNN .call_NC_nn, .op .push_DE, .opN .sub_n, .op .rst_10H,
    .op .ret_C, .op .reti, .opNN .jp_C_nn, .op (.illegal 0xDB),
    .opNN .call_C_nn, .op (.illegal 0xDD), .opN .sbc_A_n, .op .rst_18H ]

/-- First bytes 0xE0-0xEF. -/
def rowsE : List Row :=
  [ .opN .ldh_atn_A, .op .pop_HL, .op .ldh_atC_A, .op (.illegal 0xE3),
    .op (.illegal 0xE4), .op .push_HL, .opN .and_n, .op .rst_20H,
    .opN .add_SP_e, .op .jp_HL, .opNN .ld_atnn_A, .op (.illegal 0xEB),
    .op (.illegal 0xEC), .op (.illegal 0xED), .opN .xor_n, .op .rst_28H ]

/-- First bytes 0xF0-0xFF. -/
def rowsF : List Row :=
  [ .opN .ldh_A_atn, .op .pop_AF, .op .ldh_A_atC, .op .di,
    .op (.illegal 0xF4), .op .push_AF, .opN .or_n, .op .rst_30H,
    .opN .ld_HL_SPe, .op .ld_SP_HL, .opNN .ld_A_atnn, .op .ei,
    .op (.illegal 0xFC), .op (.illegal 0xFD), .opN .cp_n, .op .rst_38H ]

/-- The 256 rows of the unprefixed table, by high and low nibble of the first byte. -/
def rowBlocks : List (List Row) :=
  [rows0, rows1, rows2, rows3, rows4, rows5, rows6, rows7, rows8, rows9, rowsA, rowsB, rowsC, rowsD, rowsE, rowsF]

/-- What a first byte selects (30_encoding.md R52). -/
def row (op : Byte) : Row :=
  (rowBlocks.getD (op.toNat / 16) []).getD (op.toNat % 16) (.op .nop)

/-- The length in bytes of the instruction whose first byte is `op` (30_encoding.md R48). -/
def instrLength (op : Byte) : Nat :=
  match row op with
  | .op _ => 1
  | .opN _ => 2
  | .opNN _ => 3
  | .cbOp => 2

/-! ### The prefixed dispatch (30_encoding.md R53) -/

/-- The 32 rows of the prefixed table, by bits 7:3 of the second byte. -/
def cbRows : List (R8 → Instr) :=
  [ .rlc, .rrc, .rl, .rr, .sla, .sra, .swap, .srl,
    .bit_0, .bit_1, .bit_2, .bit_3, .bit_4, .bit_5, .bit_6, .bit_7,
    .res_0, .res_1, .res_2, .res_3, .res_4, .res_5, .res_6, .res_7,
    .set_0, .set_1, .set_2, .set_3, .set_4, .set_5, .set_6, .set_7 ]

/-- The prefixed instruction that the second byte `op2` selects: its row by bits 7:3, its operand `reg8[z]` by bits 2:0. -/
def cbInstr (op2 : Byte) : Instr :=
  (cbRows.getD (op2.toNat / 8) .rlc) (R8.ofIndex (op2.toNat % 8))

/-! ### The decoder -/

/-- Why a list of bytes is no instruction: the machine itself never meets these, since it fetches as many bytes as the
first byte asks for (30_encoding.md R48). -/
inductive DecodeError where
  | noBytes
  | truncated (op : Byte)
deriving DecidableEq, Repr

/-- The instruction at the front of a list of bytes, in fetch order (30_encoding.md R48), and the bytes after it. -/
def decode : List Byte → Except DecodeError (Instr × List Byte)
  | [] => .error .noBytes
  | op :: rest =>
    match row op, rest with
    | .op i, _ => .ok (i, rest)
    | .opN mk, n :: rest' => .ok (mk n, rest')
    | .opNN mk, lo :: hi :: rest' => .ok (mk (wordOf hi lo), rest')
    | .cbOp, op2 :: rest' => .ok (cbInstr op2, rest')
    | _, _ => .error (.truncated op)

/-- The first three bytes of a table word: its least significant byte is the instruction's first byte; bits above
`nbits` are 0. -/
def tableBytes (nbits w : Nat) : List Byte :=
  let v := w % 2 ^ nbits
  [BitVec.ofNat 8 v, BitVec.ofNat 8 (v / 0x100), BitVec.ofNat 8 (v / 0x10000)]

/-- The instruction the decoder reads from a table word (log 11). -/
def decodeTableWord (nbits w : Nat) : Option Instr :=
  match decode (tableBytes nbits w) with
  | .ok (i, _) => some i
  | .error _ => none

/-! ### The encoder -/

/-- The second byte of a prefixed instruction: row number (bits 7:3) and operand slot (bits 2:0). -/
def cbByte (row : Nat) (r : R8) : Byte := BitVec.ofNat 8 (8 * row + r.index)

/-- The bytes of an instruction in fetch order (30_encoding.md R48, R52, R53). -/
def encode : Instr → List Byte
  | .nop => [0x00]
  | .ld_BC_nn nn => [0x01, loByte nn, hiByte nn]
  | .ld_atBC_A => [0x02]
  | .inc_BC => [0x03]
  | .inc_B => [0x04]
  | .dec_B => [0x05]
  | .ld_B_n n => [0x06, n]
  | .rlca => [0x07]
  | .ld_atnn_SP nn => [0x08, loByte nn, hiByte nn]
  | .add_HL_BC => [0x09]
  | .ld_A_atBC => [0x0A]
  | .dec_BC => [0x0B]
  | .inc_C => [0x0C]
  | .dec_C => [0x0D]
  | .ld_C_n n => [0x0E, n]
  | .rrca => [0x0F]
  | .stop => [0x10]
  | .ld_DE_nn nn => [0x11, loByte nn, hiByte nn]
  | .ld_atDE_A => [0x12]
  | .inc_DE => [0x13]
  | .inc_D => [0x14]
  | .dec_D => [0x15]
  | .ld_D_n n => [0x16, n]
  | .rla => [0x17]
  | .jr_e eb => [0x18, eb]
  | .add_HL_DE => [0x19]
  | .ld_A_atDE => [0x1A]
  | .dec_DE => [0x1B]
  | .inc_E => [0x1C]
  | .dec_E => [0x1D]
  | .ld_E_n n => [0x1E, n]
  | .rra => [0x1F]
  | .jr_NZ_e eb => [0x20, eb]
  | .ld_HL_nn nn => [0x21, loByte nn, hiByte nn]
  | .ld_atHLinc_A => [0x22]
  | .inc_HL => [0x23]
  | .inc_H => [0x24]
  | .dec_H => [0x25]
  | .ld_H_n n => [0x26, n]
  | .daa => [0x27]
  | .jr_Z_e eb => [0x28, eb]
  | .add_HL_HL => [0x29]
  | .ld_A_atHLinc => [0x2A]
  | .dec_HL => [0x2B]
  | .inc_L => [0x2C]
  | .dec_L => [0x2D]
  | .ld_L_n n => [0x2E, n]
  | .cpl => [0x2F]
  | .jr_NC_e eb => [0x30, eb]
  | .ld_SP_nn nn => [0x31, loByte nn, hiByte nn]
  | .ld_atHLdec_A => [0x32]
  | .inc_SP => [0x33]
  | .inc_atHL => [0x34]
  | .dec_atHL => [0x35]
  | .ld_atHL_n n => [0x36, n]
  | .scf => [0x37]
  | .jr_C_e eb => [0x38, eb]
  | .add_HL_SP => [0x39]
  | .ld_A_atHLdec => [0x3A]
  | .dec_SP => [0x3B]
  | .inc_A => [0x3C]
  | .dec_A => [0x3D]
  | .ld_A_n n => [0x3E, n]
  | .ccf => [0x3F]
  | .ld_B_B => [0x40]
  | .ld_B_C => [0x41]
  | .ld_B_D => [0x42]
  | .ld_B_E => [0x43]
  | .ld_B_H => [0x44]
  | .ld_B_L => [0x45]
  | .ld_B_atHL => [0x46]
  | .ld_B_A => [0x47]
  | .ld_C_B => [0x48]
  | .ld_C_C => [0x49]
  | .ld_C_D => [0x4A]
  | .ld_C_E => [0x4B]
  | .ld_C_H => [0x4C]
  | .ld_C_L => [0x4D]
  | .ld_C_atHL => [0x4E]
  | .ld_C_A => [0x4F]
  | .ld_D_B => [0x50]
  | .ld_D_C => [0x51]
  | .ld_D_D => [0x52]
  | .ld_D_E => [0x53]
  | .ld_D_H => [0x54]
  | .ld_D_L => [0x55]
  | .ld_D_atHL => [0x56]
  | .ld_D_A => [0x57]
  | .ld_E_B => [0x58]
  | .ld_E_C => [0x59]
  | .ld_E_D => [0x5A]
  | .ld_E_E => [0x5B]
  | .ld_E_H => [0x5C]
  | .ld_E_L => [0x5D]
  | .ld_E_atHL => [0x5E]
  | .ld_E_A => [0x5F]
  | .ld_H_B => [0x60]
  | .ld_H_C => [0x61]
  | .ld_H_D => [0x62]
  | .ld_H_E => [0x63]
  | .ld_H_H => [0x64]
  | .ld_H_L => [0x65]
  | .ld_H_atHL => [0x66]
  | .ld_H_A => [0x67]
  | .ld_L_B => [0x68]
  | .ld_L_C => [0x69]
  | .ld_L_D => [0x6A]
  | .ld_L_E => [0x6B]
  | .ld_L_H => [0x6C]
  | .ld_L_L => [0x6D]
  | .ld_L_atHL => [0x6E]
  | .ld_L_A => [0x6F]
  | .ld_atHL_B => [0x70]
  | .ld_atHL_C => [0x71]
  | .ld_atHL_D => [0x72]
  | .ld_atHL_E => [0x73]
  | .ld_atHL_H => [0x74]
  | .ld_atHL_L => [0x75]
  | .halt => [0x76]
  | .ld_atHL_A => [0x77]
  | .ld_A_B => [0x78]
  | .ld_A_C => [0x79]
  | .ld_A_D => [0x7A]
  | .ld_A_E => [0x7B]
  | .ld_A_H => [0x7C]
  | .ld_A_L => [0x7D]
  | .ld_A_atHL => [0x7E]
  | .ld_A_A => [0x7F]
  | .add_A_B => [0x80]
  | .add_A_C => [0x81]
  | .add_A_D => [0x82]
  | .add_A_E => [0x83]
  | .add_A_H => [0x84]
  | .add_A_L => [0x85]
  | .add_A_atHL => [0x86]
  | .add_A_A => [0x87]
  | .adc_A_B => [0x88]
  | .adc_A_C => [0x89]
  | .adc_A_D => [0x8A]
  | .adc_A_E => [0x8B]
  | .adc_A_H => [0x8C]
  | .adc_A_L => [0x8D]
  | .adc_A_atHL => [0x8E]
  | .adc_A_A => [0x8F]
  | .sub_B => [0x90]
  | .sub_C => [0x91]
  | .sub_D => [0x92]
  | .sub_E => [0x93]
  | .sub_H => [0x94]
  | .sub_L => [0x95]
  | .sub_atHL => [0x96]
  | .sub_A => [0x97]
  | .sbc_A_B => [0x98]
  | .sbc_A_C => [0x99]
  | .sbc_A_D => [0x9A]
  | .sbc_A_E => [0x9B]
  | .sbc_A_H => [0x9C]
  | .sbc_A_L => [0x9D]
  | .sbc_A_atHL => [0x9E]
  | .sbc_A_A => [0x9F]
  | .and_B => [0xA0]
  | .and_C => [0xA1]
  | .and_D => [0xA2]
  | .and_E => [0xA3]
  | .and_H => [0xA4]
  | .and_L => [0xA5]
  | .and_atHL => [0xA6]
  | .and_A => [0xA7]
  | .xor_B => [0xA8]
  | .xor_C => [0xA9]
  | .xor_D => [0xAA]
  | .xor_E => [0xAB]
  | .xor_H => [0xAC]
  | .xor_L => [0xAD]
  | .xor_atHL => [0xAE]
  | .xor_A => [0xAF]
  | .or_B => [0xB0]
  | .or_C => [0xB1]
  | .or_D => [0xB2]
  | .or_E => [0xB3]
  | .or_H => [0xB4]
  | .or_L => [0xB5]
  | .or_atHL => [0xB6]
  | .or_A => [0xB7]
  | .cp_B => [0xB8]
  | .cp_C => [0xB9]
  | .cp_D => [0xBA]
  | .cp_E => [0xBB]
  | .cp_H => [0xBC]
  | .cp_L => [0xBD]
  | .cp_atHL => [0xBE]
  | .cp_A => [0xBF]
  | .ret_NZ => [0xC0]
  | .pop_BC => [0xC1]
  | .jp_NZ_nn nn => [0xC2, loByte nn, hiByte nn]
  | .jp_nn nn => [0xC3, loByte nn, hiByte nn]
  | .call_NZ_nn nn => [0xC4, loByte nn, hiByte nn]
  | .push_BC => [0xC5]
  | .add_A_n n => [0xC6, n]
  | .rst_00H => [0xC7]
  | .ret_Z => [0xC8]
  | .ret => [0xC9]
  | .jp_Z_nn nn => [0xCA, loByte nn, hiByte nn]
  | .prefixCB op2 => [0xCB, op2]
  | .call_Z_nn nn => [0xCC, loByte nn, hiByte nn]
  | .call_nn nn => [0xCD, loByte nn, hiByte nn]
  | .adc_A_n n => [0xCE, n]
  | .rst_08H => [0xCF]
  | .ret_NC => [0xD0]
  | .pop_DE => [0xD1]
  | .jp_NC_nn nn => [0xD2, loByte nn, hiByte nn]
  | .illegal op => [op]
  | .call_NC_nn nn => [0xD4, loByte nn, hiByte nn]
  | .push_DE => [0xD5]
  | .sub_n n => [0xD6, n]
  | .rst_10H => [0xD7]
  | .ret_C => [0xD8]
  | .reti => [0xD9]
  | .jp_C_nn nn => [0xDA, loByte nn, hiByte nn]
  | .call_C_nn nn => [0xDC, loByte nn, hiByte nn]
  | .sbc_A_n n => [0xDE, n]
  | .rst_18H => [0xDF]
  | .ldh_atn_A n => [0xE0, n]
  | .pop_HL => [0xE1]
  | .ldh_atC_A => [0xE2]
  | .push_HL => [0xE5]
  | .and_n n => [0xE6, n]
  | .rst_20H => [0xE7]
  | .add_SP_e eb => [0xE8, eb]
  | .jp_HL => [0xE9]
  | .ld_atnn_A nn => [0xEA, loByte nn, hiByte nn]
  | .xor_n n => [0xEE, n]
  | .rst_28H => [0xEF]
  | .ldh_A_atn n => [0xF0, n]
  | .pop_AF => [0xF1]
  | .ldh_A_atC => [0xF2]
  | .di => [0xF3]
  | .push_AF => [0xF5]
  | .or_n n => [0xF6, n]
  | .rst_30H => [0xF7]
  | .ld_HL_SPe eb => [0xF8, eb]
  | .ld_SP_HL => [0xF9]
  | .ld_A_atnn nn => [0xFA, loByte nn, hiByte nn]
  | .ei => [0xFB]
  | .cp_n n => [0xFE, n]
  | .rst_38H => [0xFF]
  | .rlc r => [0xCB, cbByte 0 r]
  | .rrc r => [0xCB, cbByte 1 r]
  | .rl r => [0xCB, cbByte 2 r]
  | .rr r => [0xCB, cbByte 3 r]
  | .sla r => [0xCB, cbByte 4 r]
  | .sra r => [0xCB, cbByte 5 r]
  | .swap r => [0xCB, cbByte 6 r]
  | .srl r => [0xCB, cbByte 7 r]
  | .bit_0 r => [0xCB, cbByte 8 r]
  | .bit_1 r => [0xCB, cbByte 9 r]
  | .bit_2 r => [0xCB, cbByte 10 r]
  | .bit_3 r => [0xCB, cbByte 11 r]
  | .bit_4 r => [0xCB, cbByte 12 r]
  | .bit_5 r => [0xCB, cbByte 13 r]
  | .bit_6 r => [0xCB, cbByte 14 r]
  | .bit_7 r => [0xCB, cbByte 15 r]
  | .res_0 r => [0xCB, cbByte 16 r]
  | .res_1 r => [0xCB, cbByte 17 r]
  | .res_2 r => [0xCB, cbByte 18 r]
  | .res_3 r => [0xCB, cbByte 19 r]
  | .res_4 r => [0xCB, cbByte 20 r]
  | .res_5 r => [0xCB, cbByte 21 r]
  | .res_6 r => [0xCB, cbByte 22 r]
  | .res_7 r => [0xCB, cbByte 23 r]
  | .set_0 r => [0xCB, cbByte 24 r]
  | .set_1 r => [0xCB, cbByte 25 r]
  | .set_2 r => [0xCB, cbByte 26 r]
  | .set_3 r => [0xCB, cbByte 27 r]
  | .set_4 r => [0xCB, cbByte 28 r]
  | .set_5 r => [0xCB, cbByte 29 r]
  | .set_6 r => [0xCB, cbByte 30 r]
  | .set_7 r => [0xCB, cbByte 31 r]

/-! ### The form of an instruction -/

/-- The form, with its operands, that each instruction has in the rules R58-R138. -/
def Instr.form : Instr → Form
  | .nop => .nop
  | .ld_BC_nn nn => .ld16 .BC nn
  | .ld_atBC_A => .ldIndA .BC
  | .inc_BC => .inc16 .BC
  | .inc_B => .inc8 .B
  | .dec_B => .dec8 .B
  | .ld_B_n n => .ld8n .B n
  | .rlca => .rlca
  | .ld_atnn_SP nn => .ldAbsSP nn
  | .add_HL_BC => .addHL .BC
  | .ld_A_atBC => .ldAInd .BC
  | .dec_BC => .dec16 .BC
  | .inc_C => .inc8 .C
  | .dec_C => .dec8 .C
  | .ld_C_n n => .ld8n .C n
  | .rrca => .rrca
  | .stop => .stop
  | .ld_DE_nn nn => .ld16 .DE nn
  | .ld_atDE_A => .ldIndA .DE
  | .inc_DE => .inc16 .DE
  | .inc_D => .inc8 .D
  | .dec_D => .dec8 .D
  | .ld_D_n n => .ld8n .D n
  | .rla => .rla
  | .jr_e eb => .jr eb
  | .add_HL_DE => .addHL .DE
  | .ld_A_atDE => .ldAInd .DE
  | .dec_DE => .dec16 .DE
  | .inc_E => .inc8 .E
  | .dec_E => .dec8 .E
  | .ld_E_n n => .ld8n .E n
  | .rra => .rra
  | .jr_NZ_e eb => .jrCond .NZ eb
  | .ld_HL_nn nn => .ld16 .HL nn
  | .ld_atHLinc_A => .ldHLincA
  | .inc_HL => .inc16 .HL
  | .inc_H => .inc8 .H
  | .dec_H => .dec8 .H
  | .ld_H_n n => .ld8n .H n
  | .daa => .daa
  | .jr_Z_e eb => .jrCond .Z eb
  | .add_HL_HL => .addHL .HL
  | .ld_A_atHLinc => .ldAHLinc
  | .dec_HL => .dec16 .HL
  | .inc_L => .inc8 .L
  | .dec_L => .dec8 .L
  | .ld_L_n n => .ld8n .L n
  | .cpl => .cpl
  | .jr_NC_e eb => .jrCond .NC eb
  | .ld_SP_nn nn => .ld16 .SP nn
  | .ld_atHLdec_A => .ldHLdecA
  | .inc_SP => .inc16 .SP
  | .inc_atHL => .inc8 .atHL
  | .dec_atHL => .dec8 .atHL
  | .ld_atHL_n n => .ld8n .atHL n
  | .scf => .scf
  | .jr_C_e eb => .jrCond .C eb
  | .add_HL_SP => .addHL .SP
  | .ld_A_atHLdec => .ldAHLdec
  | .dec_SP => .dec16 .SP
  | .inc_A => .inc8 .A
  | .dec_A => .dec8 .A
  | .ld_A_n n => .ld8n .A n
  | .ccf => .ccf
  | .ld_B_B => .ld8 .B .B
  | .ld_B_C => .ld8 .B .C
  | .ld_B_D => .ld8 .B .D
  | .ld_B_E => .ld8 .B .E
  | .ld_B_H => .ld8 .B .H
  | .ld_B_L => .ld8 .B .L
  | .ld_B_atHL => .ld8 .B .atHL
  | .ld_B_A => .ld8 .B .A
  | .ld_C_B => .ld8 .C .B
  | .ld_C_C => .ld8 .C .C
  | .ld_C_D => .ld8 .C .D
  | .ld_C_E => .ld8 .C .E
  | .ld_C_H => .ld8 .C .H
  | .ld_C_L => .ld8 .C .L
  | .ld_C_atHL => .ld8 .C .atHL
  | .ld_C_A => .ld8 .C .A
  | .ld_D_B => .ld8 .D .B
  | .ld_D_C => .ld8 .D .C
  | .ld_D_D => .ld8 .D .D
  | .ld_D_E => .ld8 .D .E
  | .ld_D_H => .ld8 .D .H
  | .ld_D_L => .ld8 .D .L
  | .ld_D_atHL => .ld8 .D .atHL
  | .ld_D_A => .ld8 .D .A
  | .ld_E_B => .ld8 .E .B
  | .ld_E_C => .ld8 .E .C
  | .ld_E_D => .ld8 .E .D
  | .ld_E_E => .ld8 .E .E
  | .ld_E_H => .ld8 .E .H
  | .ld_E_L => .ld8 .E .L
  | .ld_E_atHL => .ld8 .E .atHL
  | .ld_E_A => .ld8 .E .A
  | .ld_H_B => .ld8 .H .B
  | .ld_H_C => .ld8 .H .C
  | .ld_H_D => .ld8 .H .D
  | .ld_H_E => .ld8 .H .E
  | .ld_H_H => .ld8 .H .H
  | .ld_H_L => .ld8 .H .L
  | .ld_H_atHL => .ld8 .H .atHL
  | .ld_H_A => .ld8 .H .A
  | .ld_L_B => .ld8 .L .B
  | .ld_L_C => .ld8 .L .C
  | .ld_L_D => .ld8 .L .D
  | .ld_L_E => .ld8 .L .E
  | .ld_L_H => .ld8 .L .H
  | .ld_L_L => .ld8 .L .L
  | .ld_L_atHL => .ld8 .L .atHL
  | .ld_L_A => .ld8 .L .A
  | .ld_atHL_B => .ld8 .atHL .B
  | .ld_atHL_C => .ld8 .atHL .C
  | .ld_atHL_D => .ld8 .atHL .D
  | .ld_atHL_E => .ld8 .atHL .E
  | .ld_atHL_H => .ld8 .atHL .H
  | .ld_atHL_L => .ld8 .atHL .L
  | .halt => .halt
  | .ld_atHL_A => .ld8 .atHL .A
  | .ld_A_B => .ld8 .A .B
  | .ld_A_C => .ld8 .A .C
  | .ld_A_D => .ld8 .A .D
  | .ld_A_E => .ld8 .A .E
  | .ld_A_H => .ld8 .A .H
  | .ld_A_L => .ld8 .A .L
  | .ld_A_atHL => .ld8 .A .atHL
  | .ld_A_A => .ld8 .A .A
  | .add_A_B => .alu .add .B
  | .add_A_C => .alu .add .C
  | .add_A_D => .alu .add .D
  | .add_A_E => .alu .add .E
  | .add_A_H => .alu .add .H
  | .add_A_L => .alu .add .L
  | .add_A_atHL => .alu .add .atHL
  | .add_A_A => .alu .add .A
  | .adc_A_B => .alu .adc .B
  | .adc_A_C => .alu .adc .C
  | .adc_A_D => .alu .adc .D
  | .adc_A_E => .alu .adc .E
  | .adc_A_H => .alu .adc .H
  | .adc_A_L => .alu .adc .L
  | .adc_A_atHL => .alu .adc .atHL
  | .adc_A_A => .alu .adc .A
  | .sub_B => .alu .sub .B
  | .sub_C => .alu .sub .C
  | .sub_D => .alu .sub .D
  | .sub_E => .alu .sub .E
  | .sub_H => .alu .sub .H
  | .sub_L => .alu .sub .L
  | .sub_atHL => .alu .sub .atHL
  | .sub_A => .alu .sub .A
  | .sbc_A_B => .alu .sbc .B
  | .sbc_A_C => .alu .sbc .C
  | .sbc_A_D => .alu .sbc .D
  | .sbc_A_E => .alu .sbc .E
  | .sbc_A_H => .alu .sbc .H
  | .sbc_A_L => .alu .sbc .L
  | .sbc_A_atHL => .alu .sbc .atHL
  | .sbc_A_A => .alu .sbc .A
  | .and_B => .alu .and .B
  | .and_C => .alu .and .C
  | .and_D => .alu .and .D
  | .and_E => .alu .and .E
  | .and_H => .alu .and .H
  | .and_L => .alu .and .L
  | .and_atHL => .alu .and .atHL
  | .and_A => .alu .and .A
  | .xor_B => .alu .xor .B
  | .xor_C => .alu .xor .C
  | .xor_D => .alu .xor .D
  | .xor_E => .alu .xor .E
  | .xor_H => .alu .xor .H
  | .xor_L => .alu .xor .L
  | .xor_atHL => .alu .xor .atHL
  | .xor_A => .alu .xor .A
  | .or_B => .alu .or .B
  | .or_C => .alu .or .C
  | .or_D => .alu .or .D
  | .or_E => .alu .or .E
  | .or_H => .alu .or .H
  | .or_L => .alu .or .L
  | .or_atHL => .alu .or .atHL
  | .or_A => .alu .or .A
  | .cp_B => .alu .cp .B
  | .cp_C => .alu .cp .C
  | .cp_D => .alu .cp .D
  | .cp_E => .alu .cp .E
  | .cp_H => .alu .cp .H
  | .cp_L => .alu .cp .L
  | .cp_atHL => .alu .cp .atHL
  | .cp_A => .alu .cp .A
  | .ret_NZ => .retCond .NZ
  | .pop_BC => .pop .BC
  | .jp_NZ_nn nn => .jpCond .NZ nn
  | .jp_nn nn => .jp nn
  | .call_NZ_nn nn => .callCond .NZ nn
  | .push_BC => .push .BC
  | .add_A_n n => .aluN .add n
  | .rst_00H => .rst 0
  | .ret_Z => .retCond .Z
  | .ret => .ret
  | .jp_Z_nn nn => .jpCond .Z nn
  | .prefixCB op2 => .prefixed op2
  | .call_Z_nn nn => .callCond .Z nn
  | .call_nn nn => .call nn
  | .adc_A_n n => .aluN .adc n
  | .rst_08H => .rst 1
  | .ret_NC => .retCond .NC
  | .pop_DE => .pop .DE
  | .jp_NC_nn nn => .jpCond .NC nn
  | .illegal op => .illegal op
  | .call_NC_nn nn => .callCond .NC nn
  | .push_DE => .push .DE
  | .sub_n n => .aluN .sub n
  | .rst_10H => .rst 2
  | .ret_C => .retCond .C
  | .reti => .reti
  | .jp_C_nn nn => .jpCond .C nn
  | .call_C_nn nn => .callCond .C nn
  | .sbc_A_n n => .aluN .sbc n
  | .rst_18H => .rst 3
  | .ldh_atn_A n => .ldhnA n
  | .pop_HL => .pop .HL
  | .ldh_atC_A => .ldhCA
  | .push_HL => .push .HL
  | .and_n n => .aluN .and n
  | .rst_20H => .rst 4
  | .add_SP_e eb => .addSPe eb
  | .jp_HL => .jpHL
  | .ld_atnn_A nn => .ldAbsA nn
  | .xor_n n => .aluN .xor n
  | .rst_28H => .rst 5
  | .ldh_A_atn n => .ldhAn n
  | .pop_AF => .pop .AF
  | .ldh_A_atC => .ldhAC
  | .di => .di
  | .push_AF => .push .AF
  | .or_n n => .aluN .or n
  | .rst_30H => .rst 6
  | .ld_HL_SPe eb => .ldHLSPe eb
  | .ld_SP_HL => .ldSPHL
  | .ld_A_atnn nn => .ldAAbs nn
  | .ei => .ei
  | .cp_n n => .aluN .cp n
  | .rst_38H => .rst 7
  | .rlc r => .rot .rlc r
  | .rrc r => .rot .rrc r
  | .rl r => .rot .rl r
  | .rr r => .rot .rr r
  | .sla r => .rot .sla r
  | .sra r => .rot .sra r
  | .swap r => .rot .swap r
  | .srl r => .rot .srl r
  | .bit_0 r => .bit 0 r
  | .bit_1 r => .bit 1 r
  | .bit_2 r => .bit 2 r
  | .bit_3 r => .bit 3 r
  | .bit_4 r => .bit 4 r
  | .bit_5 r => .bit 5 r
  | .bit_6 r => .bit 6 r
  | .bit_7 r => .bit 7 r
  | .res_0 r => .res 0 r
  | .res_1 r => .res 1 r
  | .res_2 r => .res 2 r
  | .res_3 r => .res 3 r
  | .res_4 r => .res 4 r
  | .res_5 r => .res 5 r
  | .res_6 r => .res 6 r
  | .res_7 r => .res 7 r
  | .set_0 r => .set 0 r
  | .set_1 r => .set 1 r
  | .set_2 r => .set 2 r
  | .set_3 r => .set 3 r
  | .set_4 r => .set 4 r
  | .set_5 r => .set 5 r
  | .set_6 r => .set 6 r
  | .set_7 r => .set 7 r

end Sys2Proof
end

