-- ==== Sys2Proof/Config.lean ====
section
/-! DEFINITION. The parameters a model takes as arguments (00_scope.md section 4). One machine has one value of each for
its whole run. They stand in a field of State that no step changes (log 3, 4), so that a statement about every State
is a statement about every value of them. -/

namespace Sys2Proof

/-- `LAUNCH_PROFILE` (10_state.md R22; 92_eei_decisions.md D1, D3). -/
inductive LaunchProfile where
  | boot
  | skip
deriving DecidableEq, Repr

/-- `ROT_Z_POLICY` (44_rotate_shift_bit.md R108; 90_conflicts.md C1). -/
inductive RotZPolicy where
  | alwaysClear
  | resultZero
deriving DecidableEq, Repr

/-- `DMA_LEN` (61_ppu.md R175; 90_conflicts.md C2): the document's literal 0x9F, or 0xA0. -/
inductive DmaLen where
  | literal9F
  | hardwareA0
deriving DecidableEq, Repr

/-- `SPRITE_OVERLAP_ORDER` (61_ppu.md R174; 92_eei_decisions.md D30). -/
inductive SpriteOverlapOrder where
  | laterOamWins
  | earlierOamWins
deriving DecidableEq, Repr

/-- `RAM_SIZE` (00_scope.md section 4): 0, 0x800, 0x2000 or 0x8000 bytes. -/
inductive RamSize where
  | none
  | bytes800
  | bytes2000
  | bytes8000
deriving DecidableEq, Repr

/-- The machine's parameters. `ROM_BANKS` is a power of two, 2..128: it is 2 * 2^`romCode`. -/
structure Config where
  romCode      : Fin 7
  ramSize      : RamSize
  rotZPolicy   : RotZPolicy
  dmaLen       : DmaLen
  spriteOrder  : SpriteOverlapOrder
deriving DecidableEq, Repr

/-- The spec's defaults (00_scope.md section 4); where the spec leaves a parameter without one, the value of log 3 and
log 4: two ROM banks, 0x2000 bytes of cartridge RAM, `later_oam_wins`. -/
def Config.default : Config where
  romCode     := 0
  ramSize     := .bytes2000
  rotZPolicy  := .alwaysClear
  dmaLen      := .literal9F
  spriteOrder := .laterOamWins

end Sys2Proof
end

