-- ==== Sys2Proof/Machine/State.lean ====
section
/-! DEFINITION. Everything the spec gives the machine (10_state.md), as plain data, and the launch state (10_state.md R22). -/

namespace Sys2Proof.Machine

/-- CPU registers and control state (10_state.md R6-R14). The pairs are views, not storage (R7). -/
structure Cpu where
  a      : Byte
  f      : Byte
  b      : Byte
  c      : Byte
  d      : Byte
  e      : Byte
  h      : Byte
  l      : Byte
  sp     : Word
  pc     : Word
  ime    : Bool
  halted : Bool
deriving DecidableEq, Repr

/-- The interrupt controller's two bytes: `IF` (0xFF0F) and `IE` (0xFFFF) (10_state.md R17). -/
structure Irq where
  flags  : Byte
  enable : Byte
deriving DecidableEq, Repr

/-- The timer (10_state.md R18, R21; 60_exceptions.md R152). -/
structure Timer where
  div     : Byte
  tima    : Byte
  tma     : Byte
  tac     : Byte
  divSub  : Nat
  timaSub : Nat
deriving DecidableEq, Repr

/-- The PPU's mode; its number in `STAT[1:0]` is 0, 1, 2, 3 in this order (61_ppu.md R161). -/
inductive PpuMode where
  | hblank
  | vblank
  | oamSearch
  | dataTransfer
deriving DecidableEq, Repr

/-- A frame buffer: 144 rows of 160 shades, `row[y][x]` (61_ppu.md R161). -/
abbrev Frame := List (List Shade)

/-- The PPU's registers, counters and frame buffers (10_state.md R19, R21; 61_ppu.md R161). -/
structure Ppu where
  lcdc        : Byte
  statW       : Byte
  scy         : Byte
  scx         : Byte
  ly          : Byte
  lyc         : Byte
  dmaW        : Byte
  bgp         : Byte
  obp0        : Byte
  obp1        : Byte
  wy          : Byte
  wx          : Byte
  acc         : Nat
  mode        : PpuMode
  coincidence : Bool
  back        : Frame
  front       : Frame
deriving DecidableEq, Repr

/-- `mbc_mode`: 0 is ROM banking, 1 is RAM banking (20_memory.md R34). -/
inductive MbcMode where
  | romBanking
  | ramBanking
deriving DecidableEq, Repr

/-- MBC1's latches (20_memory.md R34). -/
structure Mbc1 where
  romBankLo  : BitVec 5
  romBankHi  : BitVec 2
  ramBank    : BitVec 2
  ramEnabled : Bool
  mode       : MbcMode
deriving DecidableEq, Repr

/-- The joypad: the select bits `P1[5:4]`, and the eight buttons, 1 = pressed (60_exceptions.md R155). -/
structure Joypad where
  select  : BitVec 2
  buttons : Byte
deriving DecidableEq, Repr

/-- The serial registers (60_exceptions.md R156), and the bytes emitted to the host sink, oldest first (log 8). -/
structure Serial where
  sb  : Byte
  sc  : Byte
  out : List Byte
deriving DecidableEq, Repr

/-- The eight buttons, in the order of their bits in `buttons` (60_exceptions.md R155). -/
inductive Button where
  | right | left | up | down | a | b | select | start
deriving DecidableEq, Repr

/-- What the host can deliver to the machine between two system steps (00_scope.md R3; 60_exceptions.md R155). -/
inductive HostEvent where
  | buttonDown (button : Button)
  | buttonUp (button : Button)
deriving DecidableEq, Repr

/-- The storage arrays behind the Bus: (key, byte) pairs in one canonical form, keys as in Machine/Memory.lean (log 6). -/
abbrev Memory := List Host.Cell

/-- The machine. `inputs` holds the events still to arrive: its head is the list of events that arrive
before the next system step, its tail those of the steps after it (log 7). -/
structure State where
  cfg         : Config
  cpu         : Cpu
  irq         : Irq
  timer       : Timer
  ppu         : Ppu
  mbc         : Mbc1
  bootEnabled : Bool
  joypad      : Joypad
  serial      : Serial
  mem         : Memory
  inputs      : List (List HostEvent)
deriving DecidableEq, Repr

/-- Why the machine stops. -/
inductive Fault where
  /-- UndefinedOpcode(op, address), with the faulted state: raised by the meaning of `ILLEGAL` alone, when one of the
  eleven opcode values that select no instruction is executed (46_system.md R138; 60_exceptions.md R139). `state` is the state
  before the step with `PC` advanced by one (R138; log 16); it is terminal, no step starts from it. It is the spec's
  own fault: safe. -/
  | undefinedOpcode (op : Byte) (addr : Word) (state : State)
deriving DecidableEq, Repr

/-- Why the model gives no next state. -/
inductive Refusal where
  /-- An instruction that has no meaning yet: answered by an arm of `exec` alone. Safe. -/
  | notModelled (mnemonic : String)
  /-- A bus read of 0x4000-0x7FFF whose effective bank is `ROM_BANKS` or more: raised by `mbcGet` (20_memory.md R39,
  "a model refuses such a read"; log 5). Safe: the source defines no result. -/
  | romBankBeyondImage (bank : Nat)
  /-- A bus access to 0xA000-0xBFFF with RAM enabled and an index of `RAM_SIZE` or more: raised by `mbcGet` and `mbcSet`
  (20_memory.md R40, "a model refuses the access"; log 5). Safe: the source defines no result. -/
  | cartRamBeyondSize (index : Nat)
deriving DecidableEq, Repr

/-- A frame with every pixel at shade 0 (10_state.md R22). -/
def blankFrame : Frame := List.replicate 144 (List.replicate 160 0#2)

/-- The CPU registers at launch, by profile (10_state.md R22). -/
def Cpu.launch : LaunchProfile → Cpu
  | .boot => { a := 0, f := 0, b := 0, c := 0, d := 0, e := 0, h := 0, l := 0, sp := 0, pc := 0, ime := false, halted := false }
  | .skip =>
    { a := 0x01, f := 0xB0, b := 0x00, c := 0x13, d := 0x00, e := 0xD8, h := 0x01, l := 0x4D,
      sp := 0xFFFE, pc := 0x0100, ime := false, halted := false }

/-- The interrupt bytes at launch (10_state.md R22). -/
def Irq.launch : LaunchProfile → Irq
  | .boot => { flags := 0, enable := 0 }
  | .skip => { flags := 0x01, enable := 0 }

/-- The PPU at launch: line 0, cycle 0, OAMSearch (10_state.md R22). -/
def Ppu.launch : LaunchProfile → Ppu
  | .boot =>
    { lcdc := 0, statW := 0, scy := 0, scx := 0, ly := 0, lyc := 0, dmaW := 0, bgp := 0, obp0 := 0, obp1 := 0, wy := 0, wx := 0,
      acc := 0, mode := .oamSearch, coincidence := false, back := blankFrame, front := blankFrame }
  | .skip =>
    { lcdc := 0x91, statW := 0, scy := 0, scx := 0, ly := 0, lyc := 0, dmaW := 0, bgp := 0xFC, obp0 := 0xFF, obp1 := 0xFF, wy := 0, wx := 0,
      acc := 0, mode := .oamSearch, coincidence := false, back := blankFrame, front := blankFrame }

/-- The launch state of 10_state.md R22 for parameters `cfg`, a launch profile and the launch contents of the storage
arrays (`BOOT_ROM`, `ROM` and `INIT_RAM` together, 92_eei_decisions.md D2, D3, D19), with no host event to come. -/
def State.launch (cfg : Config) (profile : LaunchProfile) (contents : Memory) : State where
  cfg         := cfg
  cpu         := Cpu.launch profile
  irq         := Irq.launch profile
  timer       := { div := 0, tima := 0, tma := 0, tac := 0, divSub := 0, timaSub := 0 }
  ppu         := Ppu.launch profile
  mbc         := { romBankLo := 0, romBankHi := 0, ramBank := 0, ramEnabled := false, mode := .romBanking }
  bootEnabled := match profile with | .boot => true | .skip => false
  joypad      := { select := 0b11, buttons := 0 }
  serial      := { sb := 0, sc := 0, out := [] }
  mem         := contents
  inputs      := []

/-- The machine right after reset: the launch state of the default profile `boot` (10_state.md R22; 70_reset_and_hazards.md
R179), with the parameters of log 3 and 4 and nothing listed in memory (log 1, 2). -/
def State.reset : State := State.launch Config.default .boot []

end Sys2Proof.Machine
end

