-- ==== Sys2Proof/Machine/Flags.lean ====
section
/-! DEFINITION. The flag register and every flag and result computation of the spec (10_state.md R8, R15; 42_alu8.md,
43_alu16.md, 44_rotate_shift_bit.md). Sums and differences are computed on natural numbers or integers, as the rules
write them, and narrowed at the end. -/

namespace Sys2Proof.Machine

/-! ### The flag register (10_state.md R8) -/

/-- `F[7]`. -/
def flagZ (f : Byte) : Bool := f.getLsbD 7

/-- `F[6]`. -/
def flagN (f : Byte) : Bool := f.getLsbD 6

/-- `F[5]`. -/
def flagH (f : Byte) : Bool := f.getLsbD 5

/-- `F[4]`. -/
def flagC (f : Byte) : Bool := f.getLsbD 4

/-- The byte with the four flags in its upper nibble and zero in its lower nibble (10_state.md R8). -/
def packFlags (z n h c : Bool) : Byte :=
  BitVec.ofBool z ++ BitVec.ofBool n ++ BitVec.ofBool h ++ BitVec.ofBool c ++ 0#4

/-- A byte written to `F` from data: the low nibble is forced to zero (10_state.md R8). -/
def maskF (v : Byte) : Byte := v &&& 0xF0

/-! ### 8-bit arithmetic and logic (42_alu8.md R86-R93): the new `A` and the new `F` -/

/-- `A + v + c` (R86 with c = 0, R87). -/
def add8 (a v : Byte) (c : Bool) : Byte × Byte :=
  let r := a.toNat + v.toNat + c.toNat
  let res := BitVec.ofNat 8 r
  (res, packFlags (res == 0) false (decide (a.toNat % 16 + v.toNat % 16 + c.toNat > 0x0F)) (decide (r > 0xFF)))

/-- `A - v - c` (R88 with c = 0, R89). -/
def sub8 (a v : Byte) (c : Bool) : Byte × Byte :=
  let r : Int := (a.toNat : Int) - v.toNat - c.toNat
  let res := BitVec.ofInt 8 r
  (res, packFlags (res == 0) true (decide (a.toNat % 16 < v.toNat % 16 + c.toNat)) (decide (a.toNat < v.toNat + c.toNat)))

/-- `A & v`: H = 1, C = 0 (R90). -/
def and8 (a v : Byte) : Byte × Byte := (a &&& v, packFlags (a &&& v == 0) false true false)

/-- `A ^ v` (R91). -/
def xor8 (a v : Byte) : Byte × Byte := (a ^^^ v, packFlags (a ^^^ v == 0) false false false)

/-- `A | v` (R92). -/
def or8 (a v : Byte) : Byte × Byte := (a ||| v, packFlags (a ||| v == 0) false false false)

/-- `alu[y]` with left operand `a`, right operand `v` and the old `F`: the new `A` and the new `F`. `CP` is `SUB` with the
result discarded (R93). -/
def aluResult (op : AluOp) (a v f : Byte) : Byte × Byte :=
  match op with
  | .add => add8 a v false
  | .adc => add8 a v (flagC f)
  | .sub => sub8 a v false
  | .sbc => sub8 a v (flagC f)
  | .and => and8 a v
  | .xor => xor8 a v
  | .or  => or8 a v
  | .cp  => (a, (sub8 a v false).2)

/-- `INC`: the result and the new `F`; C is kept (R94). -/
def inc8Result (v f : Byte) : Byte × Byte :=
  (v + 1, packFlags (v + 1 == 0) false (v.toNat % 16 == 0x0F) (flagC f))

/-- `DEC`: the result and the new `F`; C is kept (R95). -/
def dec8Result (v f : Byte) : Byte × Byte :=
  (v - 1, packFlags (v - 1 == 0) true (v.toNat % 16 == 0x00) (flagC f))

/-- The adjustment of `DAA` and the carry after it (R96). -/
def daaAdjust (a f : Byte) : Nat × Bool :=
  if flagN f then
    ((if flagH f then 0x06 else 0) + (if flagC f then 0x60 else 0), flagC f)
  else
    let low := if flagH f || decide (a.toNat % 16 > 0x09) then 0x06 else 0
    if flagC f || decide (a.toNat > 0x99) then (low + 0x60, true) else (low, false)

/-- `DAA`: the new `A` and the new `F`; N is kept, H is 0 (R96). -/
def daaResult (a f : Byte) : Byte × Byte :=
  let adj := daaAdjust a f
  let res := if flagN f then a - BitVec.ofNat 8 adj.1 else a + BitVec.ofNat 8 adj.1
  (res, packFlags (res == 0) (flagN f) false adj.2)

/-- `CPL`: the new `F`; Z and C are kept (R97). -/
def cplFlags (f : Byte) : Byte := packFlags (flagZ f) true true (flagC f)

/-- `SCF`: the new `F`; Z is kept (R98). -/
def scfFlags (f : Byte) : Byte := packFlags (flagZ f) false false true

/-- `CCF`: the new `F`; Z is kept, C is inverted (R99). -/
def ccfFlags (f : Byte) : Byte := packFlags (flagZ f) false false (!flagC f)

/-! ### 16-bit arithmetic (41_load16_stack.md R80; 43_alu16.md R100, R103) -/

/-- `sext_16` of a raw displacement byte (00_scope.md section 6). -/
def sext16 (eb : Byte) : Word := eb.signExtend 16

/-- `ADD HL,rr`: the new `HL` and the new `F`; Z is kept (R100). -/
def addHLResult (hl v : Word) (f : Byte) : Word × Byte :=
  (hl + v, packFlags (flagZ f) false (decide (hl.toNat % 0x1000 + v.toNat % 0x1000 > 0x0FFF)) (decide (hl.toNat + v.toNat > 0xFFFF)))

/-- `SP + e`: the sum, and the new `F` from the unsigned addition of the raw byte to the low byte of `SP` (R80, R103). -/
def spPlusE (sp : Word) (eb : Byte) : Word × Byte :=
  (sp + sext16 eb,
    packFlags false false (decide (sp.toNat % 0x10 + eb.toNat % 0x10 > 0x0F)) (decide (sp.toNat % 0x100 + eb.toNat > 0xFF)))

/-! ### Rotates, shifts, swap and bits (44_rotate_shift_bit.md R104-R119) -/

/-- The result of `rot[y]` on `v` with carry flag `c`, and the carry after it (R109-R116; R104-R107 for the four
accumulator rotates). -/
def rotResult (op : RotOp) (v : Byte) (c : Bool) : Byte × Bool :=
  match op with
  | .rlc  => ((v <<< 1) ||| (BitVec.ofBool (v.getLsbD 7)).setWidth 8, v.getLsbD 7)
  | .rrc  => ((v >>> 1) ||| ((BitVec.ofBool (v.getLsbD 0)).setWidth 8 <<< 7), v.getLsbD 0)
  | .rl   => ((v <<< 1) ||| (BitVec.ofBool c).setWidth 8, v.getLsbD 7)
  | .rr   => ((v >>> 1) ||| ((BitVec.ofBool c).setWidth 8 <<< 7), v.getLsbD 0)
  | .sla  => (v <<< 1, v.getLsbD 7)
  | .sra  => ((v >>> 1) ||| (v &&& 0x80), v.getLsbD 0)
  | .swap => ((v <<< 4) ||| (v >>> 4), false)
  | .srl  => (v >>> 1, v.getLsbD 0)

/-- `ZR(r)`: the Z flag after a prefixed rotate, shift or swap (R108). -/
def zr (policy : RotZPolicy) (r : Byte) : Bool :=
  match policy with
  | .alwaysClear => false
  | .resultZero  => r == 0

/-- The flags of `BIT b`: Z is the complement of the bit, C is kept (R117). -/
def bitFlags (b : Fin 8) (v f : Byte) : Byte := packFlags (!v.getLsbD b.val) false true (flagC f)

/-- `RES b` (R118). -/
def resBit (b : Fin 8) (v : Byte) : Byte := v &&& ~~~((1 : Byte) <<< b.val)

/-- `SET b` (R119). -/
def setBit (b : Fin 8) (v : Byte) : Byte := v ||| ((1 : Byte) <<< b.val)

end Sys2Proof.Machine
end

