-- ==== Sys2Proof/Machine/Memory.lean ====
section
/-! DEFINITION. The storage arrays behind the Bus (10_state.md R16) as ONE sparse list of (key, byte) pairs in canonical form:
keys strictly rising, no entry that holds what an unlisted key reads as. The array an offset belongs to is told by its
key (log 6): `VRAM`, `WRAM`, `OAM`, `HRAM` are keyed by their own bus addresses, `CRAM`, `BOOT_ROM` and `ROM`, which are banked or
overlaid, lie above the 64 KiB of bus addresses. -/

namespace Sys2Proof.Machine

/-- What a key that is not listed reads as (log 1, 2). -/
def unlisted : Byte := 0x00

/-- The byte stored at a key. -/
def Memory.get : Memory → Nat → Byte
  | [], _ => unlisted
  | (a, b) :: m, k => if k < a then unlisted else if k = a then b else Memory.get m k

/-- Stores a byte at a key and keeps the canonical form: storing what an unlisted key reads as removes the entry. -/
def Memory.set : Memory → Nat → Byte → Memory
  | [], k, v => if v = unlisted then [] else [(k, v)]
  | (a, b) :: m, k, v =>
    if k < a then (if v = unlisted then (a, b) :: m else (k, v) :: (a, b) :: m)
    else if k = a then (if v = unlisted then m else (k, v) :: m)
    else (a, b) :: Memory.set m k v

/-- The list is canonical and every key is at least `low`. -/
def Memory.wfFrom (low : Nat) : Memory → Bool
  | [] => true
  | (a, b) :: m => decide (low ≤ a) && decide (b ≠ unlisted) && Memory.wfFrom (a + 1) m

/-- The canonical form. -/
def Memory.wf (m : Memory) : Bool := Memory.wfFrom 0 m

/-- Key of `VRAM[0]`. -/
def vramBase : Nat := 0x8000

/-- Key of `WRAM[0]`. -/
def wramBase : Nat := 0xC000

/-- Key of `OAM[0]`. -/
def oamBase : Nat := 0xFE00

/-- Key of `HRAM[0]`. -/
def hramBase : Nat := 0xFF80

/-- Key of `CRAM[0]`. -/
def cramBase : Nat := 0x10000

/-- Key of `BOOT_ROM[0]`. -/
def bootBase : Nat := 0x20000

/-- Key of `ROM[0]`. -/
def romBase : Nat := 0x100000

/-- The byte of the storage arrays at a key. -/
def State.peek (s : State) (key : Nat) : Byte := Memory.get s.mem key

/-- Stores a byte in the storage arrays. -/
def State.poke (s : State) (key : Nat) (v : Byte) : State := { s with mem := Memory.set s.mem key v }

end Sys2Proof.Machine
end

