-- ==== Sys2Proof/Machine/Ops.lean ====
section
/-! DEFINITION. The named operations over registers and memory: register views, the interrupt controller, the Bus with
every region behind it, MBC1, OAM DMA, the stack, instruction fetch, taking an interrupt and returning from one. -/

namespace Sys2Proof.Machine

/-- The result of an operation that may meet an access the spec tells a model to refuse (93_implementation_defined.md U4, U5). -/
abbrev Res (α : Type) := Except Refusal α

/-- The outcome of an instruction from the result of its operation. -/
def outcome : Res State → Host.Outcome State Fault Refusal
  | .ok s => .next s
  | .error r => .refused r

/-! ### CPU registers (10_state.md R6-R14) -/

/-- `BC = B:C` (R7). -/
def State.bc (s : State) : Word := wordOf s.cpu.b s.cpu.c

/-- `DE = D:E` (R7). -/
def State.de (s : State) : Word := wordOf s.cpu.d s.cpu.e

/-- `HL = H:L` (R7). -/
def State.hl (s : State) : Word := wordOf s.cpu.h s.cpu.l

/-- `AF = A:F` (R7). -/
def State.af (s : State) : Word := wordOf s.cpu.a s.cpu.f

/-- `A <- v`. -/
def State.setA (s : State) (v : Byte) : State := { s with cpu := { s.cpu with a := v } }

/-- `F <- v`, the low nibble forced to zero (R8). -/
def State.setF (s : State) (v : Byte) : State := { s with cpu := { s.cpu with f := maskF v } }

/-- `BC <- v`: `B <- v[15:8]`, `C <- v[7:0]` (R7). -/
def State.setBC (s : State) (v : Word) : State := { s with cpu := { s.cpu with b := hiByte v, c := loByte v } }

/-- `DE <- v` (R7). -/
def State.setDE (s : State) (v : Word) : State := { s with cpu := { s.cpu with d := hiByte v, e := loByte v } }

/-- `HL <- v` (R7). -/
def State.setHL (s : State) (v : Word) : State := { s with cpu := { s.cpu with h := hiByte v, l := loByte v } }

/-- `AF <- v`, the write to `F` masked (R7, R8). -/
def State.setAF (s : State) (v : Word) : State := { s with cpu := { s.cpu with a := hiByte v, f := maskF (loByte v) } }

/-- `SP <- v` (R11). -/
def State.setSP (s : State) (v : Word) : State := { s with cpu := { s.cpu with sp := v } }

/-- `PC <- v` (R12). -/
def State.setPC (s : State) (v : Word) : State := { s with cpu := { s.cpu with pc := v } }

/-- `IME <- v` (R13). -/
def State.setIME (s : State) (v : Bool) : State := { s with cpu := { s.cpu with ime := v } }

/-- `halted <- v` (R14). -/
def State.setHalted (s : State) (v : Bool) : State := { s with cpu := { s.cpu with halted := v } }

/-! ### Interrupt controller (60_exceptions.md R140-R144) -/

/-- `RequestInterrupt(k)`: `IF <- IF | (1 << k)` (R141). -/
def State.requestInterrupt (s : State) (k : Nat) : State :=
  { s with irq := { s.irq with flags := s.irq.flags ||| ((1 : Byte) <<< k) } }

/-- `IE & IF & 0x1F` (R144). -/
def State.ripe (s : State) : Byte := s.irq.enable &&& s.irq.flags &&& 0x1F

/-- The least `i` in 0..4 with `ripe[i] = 1`, where there is one (R143, R147). -/
def lowestRipe (ripe : Byte) : Nat :=
  if ripe.getLsbD 0 then 0 else if ripe.getLsbD 1 then 1 else if ripe.getLsbD 2 then 2 else if ripe.getLsbD 3 then 3 else 4

/-! ### The Bus's regions and mappings (20_memory.md R26-R33) -/

/-- The regions behind the Bus (20_memory.md R30). -/
inductive Region where
  | bootRom | mbc1 | vram | wram | oam | joypad | serial | timer | irqFlags | ppu | bootSwitch | hram | irqEnable
deriving DecidableEq, Repr

/-- An inclusive address range and the region that claims it (20_memory.md R26). -/
structure Mapping where
  first  : Nat
  last   : Nat
  region : Region
deriving DecidableEq, Repr

/-- The mapping list, in registration order (20_memory.md R30). -/
def busMap : List Mapping :=
  [ ⟨0x0000, 0x00FF, .bootRom⟩,
    ⟨0x0000, 0x7FFF, .mbc1⟩,
    ⟨0x8000, 0x9FFF, .vram⟩,
    ⟨0xA000, 0xBFFF, .mbc1⟩,
    ⟨0xC000, 0xDFFF, .wram⟩,
    ⟨0xE000, 0xFDFF, .wram⟩,
    ⟨0xFE00, 0xFE9F, .oam⟩,
    ⟨0xFF00, 0xFF00, .joypad⟩,
    ⟨0xFF01, 0xFF02, .serial⟩,
    ⟨0xFF04, 0xFF07, .timer⟩,
    ⟨0xFF0F, 0xFF0F, .irqFlags⟩,
    ⟨0xFF40, 0xFF4B, .ppu⟩,
    ⟨0xFF50, 0xFF50, .bootSwitch⟩,
    ⟨0xFF80, 0xFFFE, .hram⟩,
    ⟨0xFFFF, 0xFFFF, .irqEnable⟩ ]

/-- Whether a region reports itself enabled: the boot ROM iff `boot_enabled`, every other region always (R30, R33). -/
def regionEnabled (s : State) : Region → Bool
  | .bootRom => s.bootEnabled
  | .mbc1 | .vram | .wram | .oam | .joypad | .serial | .timer | .irqFlags | .ppu | .bootSwitch | .hram | .irqEnable => true

/-- The selected mapping of an address: the first in list order that contains it and whose region is enabled (R26). -/
def selectMapping (s : State) (a : Word) : Option Mapping :=
  busMap.find? fun m => decide (m.first ≤ a.toNat) && decide (a.toNat ≤ m.last) && regionEnabled s m.region

/-- The open-bus value (R27). -/
def openBus : Byte := 0xFF

/-! ### MBC1 (20_memory.md R34-R41) -/

/-- `ROM_BANKS` (00_scope.md section 4). -/
def romBanks (c : Config) : Nat := 2 * 2 ^ c.romCode.val

/-- `RAM_SIZE` in bytes (00_scope.md section 4). -/
def ramBytes (c : Config) : Nat :=
  match c.ramSize with
  | .none => 0
  | .bytes800 => 0x800
  | .bytes2000 => 0x2000
  | .bytes8000 => 0x8000

/-- The bank that answers 0x4000-0x7FFF: `rom_bank_hi:rom_bank_lo` with `rom_bank_lo = 0` read as 1 (R39). -/
def upperBank (m : Mbc1) : Nat :=
  m.romBankHi.toNat * 32 + (if m.romBankLo = 0 then 1 else m.romBankLo.toNat)

/-- The index into `CRAM` of an address in 0xA000-0xBFFF (R40). -/
def cramIndex (m : Mbc1) (a : Word) : Nat := m.ramBank.toNat * 0x2000 + (a.toNat - 0xA000)

/-- MBC1's window of a raw address: its top three bits (R34). -/
def mbcWindow (a : Word) : Nat := a.toNat / 0x2000

/-- A read of MBC1, which decodes the raw address (R34, R39, R40). Windows 4, 6 and 7 are never routed here (R34). -/
def mbcGet (s : State) (a : Word) : Res Byte :=
  match mbcWindow a with
  | 0 | 1 => .ok (s.peek (romBase + a.toNat))
  | 2 | 3 =>
    let bank := upperBank s.mbc
    if bank < romBanks s.cfg then .ok (s.peek (romBase + (bank * 0x4000 + (a.toNat - 0x4000))))
    else .error (.romBankBeyondImage bank)
  | 5 =>
    if s.mbc.ramEnabled then
      let i := cramIndex s.mbc a
      if i < ramBytes s.cfg then .ok (s.peek (cramBase + i)) else .error (.cartRamBeyondSize i)
    else .ok openBus
  | _ => .ok openBus

/-- Window 3: the mode latch is bit 0; RAM mode clears `rom_bank_hi`, ROM mode clears `ram_bank` (R38). -/
def mbcSetMode (m : Mbc1) (v : Byte) : Mbc1 :=
  if v.getLsbD 0 then { m with mode := .ramBanking, romBankHi := 0 } else { m with mode := .romBanking, ramBank := 0 }

/-- Window 2: `ram_bank` in RAM mode, `rom_bank_hi` in ROM mode (R37). -/
def mbcSetUpper (m : Mbc1) (v : Byte) : Mbc1 :=
  match m.mode with
  | .ramBanking => { m with ramBank := v.extractLsb' 0 2 }
  | .romBanking => { m with romBankHi := v.extractLsb' 0 2 }

/-- A write of MBC1: the register windows R35-R38 and the cartridge RAM window R40. -/
def mbcSet (s : State) (a : Word) (v : Byte) : Res State :=
  match mbcWindow a with
  | 0 => .ok { s with mbc := { s.mbc with ramEnabled := decide (v &&& 0x0F = 0x0A) } }
  | 1 => .ok { s with mbc := { s.mbc with romBankLo := v.extractLsb' 0 5 } }
  | 2 => .ok { s with mbc := mbcSetUpper s.mbc v }
  | 3 => .ok { s with mbc := mbcSetMode s.mbc v }
  | 5 =>
    if s.mbc.ramEnabled then
      let i := cramIndex s.mbc a
      if i < ramBytes s.cfg then .ok (s.poke (cramBase + i) v) else .error (.cartRamBeyondSize i)
    else .ok s
  | _ => .ok s

/-! ### Device registers on the Bus -/

/-- The number of a mode in `STAT[1:0]` (61_ppu.md R161). -/
def modeBits : PpuMode → Byte
  | .hblank => 0
  | .vblank => 1
  | .oamSearch => 2
  | .dataTransfer => 3

/-- A read of `STAT`: `(stat_w & 0xF8) | (coincidence << 2) | mode` (61_ppu.md R163). -/
def statByte (p : Ppu) : Byte :=
  (p.statW &&& 0xF8) ||| ((BitVec.ofBool p.coincidence).setWidth 8 <<< 2) ||| modeBits p.mode

/-- A read of the PPU register at an offset from 0xFF40 (61_ppu.md R163). -/
def ppuGet (p : Ppu) : Nat → Byte
  | 0 => p.lcdc
  | 1 => statByte p
  | 2 => p.scy
  | 3 => p.scx
  | 4 => p.ly
  | 5 => p.lyc
  | 6 => p.dmaW
  | 7 => p.bgp
  | 8 => p.obp0
  | 9 => p.obp1
  | 10 => p.wy
  | _ => p.wx

/-- A write of the PPU register at an offset from 0xFF40, without the DMA copy: `STAT` stores `stat_w`, `LY` is ignored
(61_ppu.md R163). -/
def ppuSet (p : Ppu) (v : Byte) : Nat → Ppu
  | 0 => { p with lcdc := v }
  | 1 => { p with statW := v }
  | 2 => { p with scy := v }
  | 3 => { p with scx := v }
  | 4 => p
  | 5 => { p with lyc := v }
  | 6 => { p with dmaW := v }
  | 7 => { p with bgp := v }
  | 8 => { p with obp0 := v }
  | 9 => { p with obp1 := v }
  | 10 => { p with wy := v }
  | _ => { p with wx := v }

/-- A read of the timer register at an offset from 0xFF04 (60_exceptions.md R154). -/
def timerGet (t : Timer) : Nat → Byte
  | 0 => t.div
  | 1 => t.tima
  | 2 => t.tma
  | _ => t.tac

/-- A write of the timer register at an offset from 0xFF04: the byte is stored, the sub-counters are untouched
(60_exceptions.md R154). -/
def timerSet (t : Timer) (v : Byte) : Nat → Timer
  | 0 => { t with div := v }
  | 1 => { t with tima := v }
  | 2 => { t with tma := v }
  | _ => { t with tac := v }

/-- A read of `P1` (60_exceptions.md R155). -/
def joypadGet (j : Joypad) : Byte :=
  let directions : BitVec 4 := if j.select.getLsbD 0 then 0xF else ~~~(j.buttons.extractLsb' 0 4)
  let actions : BitVec 4 := if j.select.getLsbD 1 then 0xF else ~~~(j.buttons.extractLsb' 4 4)
  0b11#2 ++ j.select ++ (directions &&& actions)

/-- A write of `P1`: bits 5:4 are stored (60_exceptions.md R155). -/
def joypadSet (j : Joypad) (v : Byte) : Joypad := { j with select := v.extractLsb' 4 2 }

/-- A write of `SC`: stored; with bits 7 and 0 both 1, `SerialOut(SB)` goes to the host (60_exceptions.md R156; log 8). -/
def serialSetControl (p : Serial) (v : Byte) : Serial :=
  if v &&& 0x81 = 0x81 then { p with sc := v, out := p.out ++ [p.sb] } else { p with sc := v }

/-! ### Bus.Get, Bus.Set, Bus.GetBlock (20_memory.md R27-R29) -/

/-- A region's `get` at a raw address and an offset from the start of its mapping. -/
def regionGet (s : State) (r : Region) (a : Word) (off : Nat) : Res Byte :=
  match r with
  | .bootRom    => .ok (s.peek (bootBase + off))
  | .mbc1       => mbcGet s a
  | .vram       => .ok (s.peek (vramBase + off))
  | .wram       => .ok (s.peek (wramBase + off))
  | .oam        => .ok (s.peek (oamBase + off))
  | .joypad     => .ok (joypadGet s.joypad)
  | .serial     => .ok (if off = 0 then s.serial.sb else s.serial.sc)
  | .timer      => .ok (timerGet s.timer off)
  | .irqFlags   => .ok s.irq.flags
  | .ppu        => .ok (ppuGet s.ppu off)
  | .bootSwitch => .ok openBus
  | .hram       => .ok (s.peek (hramBase + off))
  | .irqEnable  => .ok s.irq.enable

/-- `Bus.Get(a)` (20_memory.md R27); also `MemRead(a, 1)` (00_scope.md section 6). -/
def busGet (s : State) (a : Word) : Res Byte :=
  match selectMapping s a with
  | none => .ok openBus
  | some m => regionGet s m.region a (a.toNat - m.first)

/-- The copy of an OAM DMA: `OAM[i] <- Bus.Get((v << 8) + i)` for `count` values of `i` from `i` on (61_ppu.md R175). -/
def dmaCopy (page : Byte) : Nat → Nat → State → Res State
  | 0, _, s => .ok s
  | count + 1, i, s => do
    let v ← busGet s (BitVec.ofNat 16 (page.toNat * 0x100 + i))
    dmaCopy page count (i + 1) (s.poke (oamBase + i) v)

/-- `DMA_LEN` in bytes (61_ppu.md R175). -/
def dmaBytes (c : Config) : Nat :=
  match c.dmaLen with
  | .literal9F => 0x9F
  | .hardwareA0 => 0xA0

/-- A write of the PPU register at an offset from 0xFF40: offset 6 stores `dma_w` and then makes the whole copy
(61_ppu.md R163, R175). -/
def ppuRegionSet (s : State) (off : Nat) (v : Byte) : Res State :=
  let s' := { s with ppu := ppuSet s.ppu v off }
  if off = 6 then dmaCopy v (dmaBytes s.cfg) 0 s' else .ok s'

/-- A region's `set` at a raw address and an offset from the start of its mapping. The boot ROM ignores it (R33). -/
def regionSet (s : State) (r : Region) (a : Word) (off : Nat) (v : Byte) : Res State :=
  match r with
  | .bootRom    => .ok s
  | .mbc1       => mbcSet s a v
  | .vram       => .ok (s.poke (vramBase + off) v)
  | .wram       => .ok (s.poke (wramBase + off) v)
  | .oam        => .ok (s.poke (oamBase + off) v)
  | .joypad     => .ok { s with joypad := joypadSet s.joypad v }
  | .serial     => .ok { s with serial := if off = 0 then { s.serial with sb := v } else serialSetControl s.serial v }
  | .timer      => .ok { s with timer := timerSet s.timer v off }
  | .irqFlags   => .ok { s with irq := { s.irq with flags := v } }
  | .ppu        => ppuRegionSet s off v
  | .bootSwitch => .ok { s with bootEnabled := false }
  | .hram       => .ok (s.poke (hramBase + off) v)
  | .irqEnable  => .ok { s with irq := { s.irq with enable := v } }

/-- `Bus.Set(a, v)` (20_memory.md R28); also `MemWrite(a, 1, v)` (00_scope.md section 6). -/
def busSet (s : State) (a : Word) (v : Byte) : Res State :=
  match selectMapping s a with
  | none => .ok s
  | some m => regionSet s m.region a (a.toNat - m.first) v

/-- The key where a region's contiguous storage starts, for the four plain RAM regions; every other region refuses block
access (20_memory.md R29, R41). -/
def regionBlock : Region → Option Nat
  | .vram => some vramBase
  | .wram => some wramBase
  | .oam => some oamBase
  | .hram => some hramBase
  | .bootRom | .mbc1 | .joypad | .serial | .timer | .irqFlags | .ppu | .bootSwitch | .irqEnable => none

/-- `Bus.GetBlock(a)`: the key of the storage at offset `a - start` of the selected mapping's region, or nothing
(20_memory.md R29). -/
def busGetBlock (s : State) (a : Word) : Option Nat :=
  match selectMapping s a with
  | none => none
  | some m => (regionBlock m.region).map fun base => base + (a.toNat - m.first)

/-! ### 16-bit accesses and the stack (20_memory.md R23; 41_load16_stack.md R81, R82) -/

/-- `MemRead(a, 2)`: the byte at `a` is the low half. -/
def busGet16 (s : State) (a : Word) : Res Word := do
  let lo ← busGet s a
  let hi ← busGet s (a + 1)
  return wordOf hi lo

/-- `MemWrite(a, 2, v)`: the low byte to `a`, then the high byte to `a + 1`. -/
def busSet16 (s : State) (a : Word) (v : Word) : Res State := do
  let s ← busSet s a (loByte v)
  busSet s (a + 1) (hiByte v)

/-- `Push16(v)` (R81). -/
def push16 (s : State) (v : Word) : Res State :=
  busSet16 (s.setSP (s.cpu.sp - 2)) (s.cpu.sp - 2) v

/-- `Pop16()` (R82): the value and the state with `SP` adjusted. -/
def pop16 (s : State) : Res (Word × State) := do
  let v ← busGet16 s s.cpu.sp
  return (v, s.setSP (s.cpu.sp + 2))

/-! ### Instruction fetch (30_encoding.md R48, R49) -/

/-- Fetches one whole instruction at `PC`: the first byte, then as many as it asks for (R48), each with `Fetch8`, so that `PC`
ends after the instruction (R49; 10_state.md R12). -/
def fetch (s : State) : Res (Instr × State) := do
  let pc := s.cpu.pc
  let op ← busGet s pc
  match row op with
  | .op i => return (i, s.setPC (pc + 1))
  | .opN mk =>
    let n ← busGet s (pc + 1)
    return (mk n, s.setPC (pc + 2))
  | .opNN mk =>
    let lo ← busGet s (pc + 1)
    let hi ← busGet s (pc + 2)
    return (mk (wordOf hi lo), s.setPC (pc + 3))
  | .cbOp =>
    let op2 ← busGet s (pc + 1)
    return (cbInstr op2, s.setPC (pc + 2))

/-! ### Taking an interrupt and returning from one (60_exceptions.md R146, R149; 45_control_flow.md R130) -/

/-- The vector of interrupt `k`: 0x0040 + 8*k (R140). -/
def vector (k : Nat) : Word := BitVec.ofNat 16 (0x0040 + 8 * k)

/-- Interrupt dispatch of source `k`, in the order of R146: clear `IF[k]`, `IME <- 0`, push `PC`, `PC <- 0x0040 + 8*k`. Nothing
else is saved and no other mode changes. -/
def takeInterrupt (s : State) (k : Nat) : Res State := do
  let s := { s with irq := { s.irq with flags := s.irq.flags &&& ~~~((1 : Byte) <<< k) } }
  let s ← push16 (s.setIME false) s.cpu.pc
  return s.setPC (vector k)

/-- Return from interrupt: `PC <- Pop16(); IME <- 1`; nothing else is restored (R130). -/
def returnFromInterrupt (s : State) : Res State := do
  let (v, s) ← pop16 s
  return (s.setPC v).setIME true

/-! ### Host events (60_exceptions.md R155) -/

/-- The bit of a button in `buttons`. -/
def buttonBit : Button → Nat
  | .right => 0 | .left => 1 | .up => 2 | .down => 3 | .a => 4 | .b => 5 | .select => 6 | .start => 7

/-- A button event: a press of a button that is up sets its bit and requests the Joypad interrupt; a press of a button
that is down does nothing; a release clears the bit. -/
def applyEvent (s : State) : HostEvent → State
  | .buttonDown b =>
    if s.joypad.buttons.getLsbD (buttonBit b) then s
    else
      { s with joypad := { s.joypad with buttons := s.joypad.buttons ||| ((1 : Byte) <<< buttonBit b) } }.requestInterrupt 4
  | .buttonUp b =>
    { s with joypad := { s.joypad with buttons := s.joypad.buttons &&& ~~~((1 : Byte) <<< buttonBit b) } }

/-- The host events that arrive before the coming system step, applied in order (00_scope.md R3; log 7). -/
def deliverInputs (s : State) : State :=
  match s.inputs with
  | [] => s
  | events :: later => events.foldl applyEvent { s with inputs := later }

/-! ### Placing an instruction where the next step fetches it (log 12) -/

/-- The key of the storage cell that a bus read of `a` returns, where it returns one: boot ROM, the cartridge, RAM. -/
def cellKey (s : State) (a : Word) : Option Nat :=
  match selectMapping s a with
  | none => none
  | some m =>
    match m.region with
    | .bootRom => some (bootBase + (a.toNat - m.first))
    | .mbc1 =>
      match mbcWindow a with
      | 0 | 1 => some (romBase + a.toNat)
      | 2 | 3 => some (romBase + (upperBank s.mbc * 0x4000 + (a.toNat - 0x4000)))
      | _ => if s.mbc.ramEnabled then some (cramBase + cramIndex s.mbc a) else none
    | .vram | .wram | .oam | .hram => (regionBlock m.region).map fun base => base + (a.toNat - m.first)
    | .joypad | .serial | .timer | .irqFlags | .ppu | .bootSwitch | .irqEnable => none

/-- Stores bytes in the cells that reads of `a`, `a + 1`, ... return. -/
def placeBytes (s : State) (a : Word) : List Byte → State
  | [] => s
  | b :: bs =>
    let s' := match cellKey s a with
      | some key => s.poke key b
      | none => s
    placeBytes s' (a + 1) bs

/-- What keeps the next step from fetching is taken out of its way: no event arrives before it, the CPU runs, and where an
interrupt is ripe `IME` is 0. -/
def readyToFetch (s : State) : State :=
  { s with
    inputs := (match s.inputs with | [] => [] | _ :: later => [] :: later)
    cpu := { s.cpu with halted := false, ime := s.cpu.ime && decide (s.ripe = 0) } }

end Sys2Proof.Machine
end

