-- ==== Sys2Proof/Machine/Operands.lean ====
section
/-! DEFINITION. The operand forms (10_state.md R9, R10; 45_control_flow.md R120) and, over them, one operation for each form of
instruction, written from its rule. In each, `PC` already points past the instruction (10_state.md R12). -/

namespace Sys2Proof.Machine

/-! ### Operand tables -/

/-- A read of `reg8[i]`; `(HL)` is `MemRead(HL, 1)` (10_state.md R9). -/
def readR8 (s : State) : R8 → Res Byte
  | .B => .ok s.cpu.b
  | .C => .ok s.cpu.c
  | .D => .ok s.cpu.d
  | .E => .ok s.cpu.e
  | .H => .ok s.cpu.h
  | .L => .ok s.cpu.l
  | .atHL => busGet s s.hl
  | .A => .ok s.cpu.a

/-- `reg8[i] <- v`; `(HL)` is `MemWrite(HL, 1, v)` (10_state.md R9). -/
def writeR8 (s : State) (r : R8) (v : Byte) : Res State :=
  match r with
  | .B => .ok { s with cpu := { s.cpu with b := v } }
  | .C => .ok { s with cpu := { s.cpu with c := v } }
  | .D => .ok { s with cpu := { s.cpu with d := v } }
  | .E => .ok { s with cpu := { s.cpu with e := v } }
  | .H => .ok { s with cpu := { s.cpu with h := v } }
  | .L => .ok { s with cpu := { s.cpu with l := v } }
  | .atHL => busSet s s.hl v
  | .A => .ok { s with cpu := { s.cpu with a := v } }

/-- A read of `reg16[i]` (10_state.md R10). -/
def readR16 (s : State) : R16 → Word
  | .BC => s.bc
  | .DE => s.de
  | .HL => s.hl
  | .SP => s.cpu.sp

/-- `reg16[i] <- v` (10_state.md R10). -/
def writeR16 (s : State) (r : R16) (v : Word) : State :=
  match r with
  | .BC => s.setBC v
  | .DE => s.setDE v
  | .HL => s.setHL v
  | .SP => s.setSP v

/-- A read of `reg16s[i]` (10_state.md R10). -/
def readR16S (s : State) : R16S → Word
  | .BC => s.bc
  | .DE => s.de
  | .HL => s.hl
  | .AF => s.af

/-- `reg16s[i] <- v`, the write to `F` masked (10_state.md R8, R10). -/
def writeR16S (s : State) (r : R16S) (v : Word) : State :=
  match r with
  | .BC => s.setBC v
  | .DE => s.setDE v
  | .HL => s.setHL v
  | .AF => s.setAF v

/-- `Cond(i)` on the flag register (45_control_flow.md R120). -/
def condHolds (cc : Cond) (f : Byte) : Bool :=
  match cc with
  | .NZ => !flagZ f
  | .Z  => flagZ f
  | .NC => !flagC f
  | .C  => flagC f

/-- The high-page address `0xFF00 + n` (40_load8.md R69-R72). -/
def highPage (n : Byte) : Word := wordOf 0xFF n

/-! ### 8-bit loads and stores (40_load8.md) -/

/-- `reg8[d] <- reg8[src]` (R58, R60, R61). -/
def ld8 (d src : R8) (s : State) : Res State := do
  let v ← readR8 s src
  writeR8 s d v

/-- `reg8[d] <- n` (R59, R62). -/
def ld8n (d : R8) (n : Byte) (s : State) : Res State := writeR8 s d n

/-- `A <- MemRead(a, 1)` (R63, R64, R67, R69, R71). -/
def loadA (a : Word) (s : State) : Res State := do
  let v ← busGet s a
  return s.setA v

/-- `MemWrite(a, 1, A)` (R65, R66, R68, R70, R72). -/
def storeA (a : Word) (s : State) : Res State := busSet s a s.cpu.a

/-- `A <- MemRead(HL, 1); HL <- HL + delta` (R74, R76). -/
def loadAStep (delta : Word) (s : State) : Res State := do
  let v ← busGet s s.hl
  return (s.setA v).setHL (s.hl + delta)

/-- `MemWrite(HL, 1, A); HL <- HL + delta` (R73, R75). -/
def storeAStep (delta : Word) (s : State) : Res State := do
  let s' ← busSet s s.hl s.cpu.a
  return s'.setHL (s.hl + delta)

/-! ### 16-bit loads and the stack (41_load16_stack.md) -/

/-- `reg16[p] <- nn` (R77). -/
def ld16 (rr : R16) (nn : Word) (s : State) : Res State := .ok (writeR16 s rr nn)

/-- `MemWrite(nn, 2, SP)` (R78). -/
def storeSP (nn : Word) (s : State) : Res State := busSet16 s nn s.cpu.sp

/-- `SP <- HL` (R79). -/
def ldSPHL (s : State) : Res State := .ok (s.setSP s.hl)

/-- `HL <- SP + sext_16(eb)` and the flags (R80). -/
def ldHLSPe (eb : Byte) (s : State) : Res State :=
  let r := spPlusE s.cpu.sp eb
  .ok ((s.setHL r.1).setF r.2)

/-- `Push16(reg16s[p])` (R83). -/
def pushPair (rr : R16S) (s : State) : Res State := push16 s (readR16S s rr)

/-- `reg16s[p] <- Pop16()` (R84). -/
def popPair (rr : R16S) (s : State) : Res State := do
  let (v, s) ← pop16 s
  return writeR16S s rr v

/-! ### 8-bit arithmetic and logic (42_alu8.md) -/

/-- `alu[y] v` on the accumulator (R85-R93). -/
def aluA (op : AluOp) (v : Byte) (s : State) : State :=
  let r := aluResult op s.cpu.a v s.cpu.f
  (s.setA r.1).setF r.2

/-- `alu[y] reg8[z]` (R85). -/
def aluR8 (op : AluOp) (src : R8) (s : State) : Res State := do
  let v ← readR8 s src
  return aluA op v s

/-- `alu[y] n` (R85). -/
def aluImm (op : AluOp) (n : Byte) (s : State) : Res State := .ok (aluA op n s)

/-- `INC reg8[y]` (R94). -/
def incR8 (r : R8) (s : State) : Res State := do
  let v ← readR8 s r
  let x := inc8Result v s.cpu.f
  writeR8 (s.setF x.2) r x.1

/-- `DEC reg8[y]` (R95). -/
def decR8 (r : R8) (s : State) : Res State := do
  let v ← readR8 s r
  let x := dec8Result v s.cpu.f
  writeR8 (s.setF x.2) r x.1

/-- `DAA` (R96). -/
def daaA (s : State) : Res State :=
  let r := daaResult s.cpu.a s.cpu.f
  .ok ((s.setA r.1).setF r.2)

/-- `CPL` (R97). -/
def cplA (s : State) : Res State := .ok ((s.setA (s.cpu.a ^^^ 0xFF)).setF (cplFlags s.cpu.f))

/-- `SCF` (R98). -/
def scfOp (s : State) : Res State := .ok (s.setF (scfFlags s.cpu.f))

/-- `CCF` (R99). -/
def ccfOp (s : State) : Res State := .ok (s.setF (ccfFlags s.cpu.f))

/-! ### 16-bit arithmetic (43_alu16.md) -/

/-- `ADD HL,rr` (R100). -/
def addHL (rr : R16) (s : State) : Res State :=
  let r := addHLResult s.hl (readR16 s rr) s.cpu.f
  .ok ((s.setHL r.1).setF r.2)

/-- `INC rr` (R101). -/
def incR16 (rr : R16) (s : State) : Res State := .ok (writeR16 s rr (readR16 s rr + 1))

/-- `DEC rr` (R102). -/
def decR16 (rr : R16) (s : State) : Res State := .ok (writeR16 s rr (readR16 s rr - 1))

/-- `ADD SP,e` (R103). -/
def addSPe (eb : Byte) (s : State) : Res State :=
  let r := spPlusE s.cpu.sp eb
  .ok ((s.setSP r.1).setF r.2)

/-! ### Rotates, shifts, bits (44_rotate_shift_bit.md) -/

/-- An accumulator rotate: Z, N and H are 0 (R104-R107). -/
def rotA (op : RotOp) (s : State) : Res State :=
  let r := rotResult op s.cpu.a (flagC s.cpu.f)
  .ok ((s.setA r.1).setF (packFlags false false false r.2))

/-- `rot[y] reg8[z]` (R108-R116). -/
def rotR8 (op : RotOp) (r : R8) (s : State) : Res State := do
  let v ← readR8 s r
  let x := rotResult op v (flagC s.cpu.f)
  let s' ← writeR8 s r x.1
  return s'.setF (packFlags (zr s.cfg.rotZPolicy x.1) false false x.2)

/-- `BIT b,reg8[z]`: nothing is written back (R117). -/
def bitR8 (b : Fin 8) (r : R8) (s : State) : Res State := do
  let v ← readR8 s r
  return s.setF (bitFlags b v s.cpu.f)

/-- `RES b,reg8[z]` (R118). -/
def resR8 (b : Fin 8) (r : R8) (s : State) : Res State := do
  let v ← readR8 s r
  writeR8 s r (resBit b v)

/-- `SET b,reg8[z]` (R119). -/
def setR8 (b : Fin 8) (r : R8) (s : State) : Res State := do
  let v ← readR8 s r
  writeR8 s r (setBit b v)

/-- The prefixed instruction that `op2 = x:y:z` selects, by its fields (30_encoding.md R50, R53; 46_system.md R137). -/
def prefixedByFields (op2 : Byte) (s : State) : Res State :=
  let y := op2.toNat / 8 % 8
  let r := R8.ofIndex (op2.toNat % 8)
  match op2.toNat / 64 with
  | 0 => rotR8 (RotOp.ofIndex y) r s
  | 1 => bitR8 (Fin.ofNat 8 y) r s
  | 2 => resR8 (Fin.ofNat 8 y) r s
  | _ => setR8 (Fin.ofNat 8 y) r s

/-! ### Control transfer (45_control_flow.md) -/

/-- `PC <- a` (R121, R123). -/
def jump (a : Word) (s : State) : Res State := .ok (s.setPC a)

/-- `if Cond(cc) then PC <- a` (R122). -/
def jumpIf (cc : Cond) (a : Word) (s : State) : Res State :=
  if condHolds cc s.cpu.f then jump a s else .ok s

/-- `PC <- PC + sext_16(eb)` (R124). -/
def jumpRel (eb : Byte) (s : State) : Res State := jump (s.cpu.pc + sext16 eb) s

/-- `if Cond(cc) then PC <- PC + sext_16(eb)` (R125). -/
def jumpRelIf (cc : Cond) (eb : Byte) (s : State) : Res State :=
  if condHolds cc s.cpu.f then jumpRel eb s else .ok s

/-- `Push16(PC); PC <- a` (R126, R131). -/
def callTo (a : Word) (s : State) : Res State := do
  let s' ← push16 s s.cpu.pc
  return s'.setPC a

/-- `if Cond(cc) then (Push16(PC); PC <- a)` (R127). -/
def callIf (cc : Cond) (a : Word) (s : State) : Res State :=
  if condHolds cc s.cpu.f then callTo a s else .ok s

/-- `PC <- Pop16()` (R128). -/
def ret (s : State) : Res State := do
  let (v, s) ← pop16 s
  return s.setPC v

/-- `if Cond(cc) then PC <- Pop16()` (R129). -/
def retIf (cc : Cond) (s : State) : Res State :=
  if condHolds cc s.cpu.f then ret s else .ok s

/-- `RST t`, t = 8*y (R131). -/
def restart (y : Fin 8) (s : State) : Res State := callTo (BitVec.ofNat 16 (8 * y.val)) s

/-! ### System instructions (46_system.md) -/

/-- `NOP`: only `PC` has advanced (R132). -/
def nopOp (s : State) : Res State := .ok s

/-- `halted <- true` (R133, R134). -/
def haltOp (s : State) : Res State := .ok (s.setHalted true)

/-- `IME <- v`, at once (R135, R136). -/
def imeOp (v : Bool) (s : State) : Res State := .ok (s.setIME v)

/-- `raise UndefinedOpcode(op, a)`, `a` the address the opcode byte was fetched from; nothing is pushed and no vector is
entered, so the state at the fault is the one in which only `PC` has advanced past the opcode byte (R138; log 16). -/
def undefinedOpcode (op : Byte) (s : State) : Host.Outcome State Fault Refusal :=
  .fault (.undefinedOpcode op (s.cpu.pc - 1) s)

end Sys2Proof.Machine
end

