-- ==== Sys2Proof/Machine/Cycles.lean ====
section
/-! DEFINITION. The clock cycles `CPU.Step` reports (30_encoding.md R57; 70_reset_and_hazards.md R186). They are architectural: the
Timer and the PPU consume them. -/

namespace Sys2Proof.Machine

/-- `HALT_IDLE_CYCLES` (00_scope.md section 4; 92_eei_decisions.md D4). -/
def haltIdleCycles : Nat := 4

/-- `IRQ_DISPATCH_CYCLES` (60_exceptions.md R146). -/
def irqDispatchCycles : Nat := 20

/-- A cost that depends on whether the operand is the memory byte at `HL`. -/
def byOperand (r : R8) (register memory : Nat) : Nat :=
  match r with
  | .atHL => memory
  | .B | .C | .D | .E | .H | .L | .A => register

/-- A cost that depends on whether the condition holds. -/
def byCond (cc : Cond) (f : Byte) (taken notTaken : Nat) : Nat := if condHolds cc f then taken else notTaken

/-- `CYCLES(op, taken)` for each form, with the flag register before the instruction (30_encoding.md R57). The two last forms
report no cost of their own: the prefix byte's is that of the prefixed instruction (46_system.md R137), and an undefined
opcode's `CPU.Step` never returns (46_system.md R138). -/
def formCycles (x : Form) (f : Byte) : Nat :=
  match x with
  | .nop | .halt | .stop | .di | .ei => 4
  | .rlca | .rrca | .rla | .rra | .daa | .cpl | .scf | .ccf => 4
  | .ld8 d r => byOperand d (byOperand r 4 8) 8
  | .alu _ r => byOperand r 4 8
  | .inc8 r | .dec8 r => byOperand r 4 12
  | .ld8n d _ => byOperand d 8 12
  | .aluN _ _ => 8
  | .ldAInd _ | .ldIndA _ | .ldHLincA | .ldAHLinc | .ldHLdecA | .ldAHLdec => 8
  | .ldhCA | .ldhAC => 8
  | .ldhnA _ | .ldhAn _ => 12
  | .ldAbsA _ | .ldAAbs _ => 16
  | .ld16 _ _ => 12
  | .ldAbsSP _ => 20
  | .ldSPHL => 8
  | .ldHLSPe _ => 12
  | .addSPe _ => 16
  | .push _ => 16
  | .pop _ => 12
  | .addHL _ | .inc16 _ | .dec16 _ => 8
  | .jp _ => 16
  | .jpCond cc _ => byCond cc f 16 12
  | .jpHL => 4
  | .jr _ => 12
  | .jrCond cc _ => byCond cc f 12 8
  | .call _ => 24
  | .callCond cc _ => byCond cc f 24 12
  | .ret | .reti => 16
  | .retCond cc => byCond cc f 20 8
  | .rst _ => 16
  | .rot _ r | .res _ r | .set _ r => byOperand r 8 16
  | .bit _ r => byOperand r 8 12
  | .prefixed op2 => byOperand (R8.ofIndex (op2.toNat % 8)) 8 (if op2.toNat / 64 = 1 then 12 else 16)
  | .illegal _ => 0

/-- The cost of an instruction executed in state `s` (30_encoding.md R57). -/
def cycles (i : Instr) (s : State) : Nat := formCycles i.form s.cpu.f

end Sys2Proof.Machine
end

