-- ==== Sys2Proof/Machine/Alu16.lean ====
section
/-! DEFINITION. The meaning of every 16-bit arithmetic instruction (43_alu16.md R100-R103). Each answers the
state after the instruction, from the state whose `PC` already points past it (10_state.md R12). -/

namespace Sys2Proof.Machine

open Host (Outcome)

/-- R101: `INC BC`. -/
def execInc_BC (s : State) : Outcome State Fault Refusal := outcome (incR16 .BC s)

/-- R100: `ADD HL,BC`. -/
def execAdd_HL_BC (s : State) : Outcome State Fault Refusal := outcome (addHL .BC s)

/-- R102: `DEC BC`. -/
def execDec_BC (s : State) : Outcome State Fault Refusal := outcome (decR16 .BC s)

/-- R101: `INC DE`. -/
def execInc_DE (s : State) : Outcome State Fault Refusal := outcome (incR16 .DE s)

/-- R100: `ADD HL,DE`. -/
def execAdd_HL_DE (s : State) : Outcome State Fault Refusal := outcome (addHL .DE s)

/-- R102: `DEC DE`. -/
def execDec_DE (s : State) : Outcome State Fault Refusal := outcome (decR16 .DE s)

/-- R101: `INC HL`. -/
def execInc_HL (s : State) : Outcome State Fault Refusal := outcome (incR16 .HL s)

/-- R100: `ADD HL,HL`. -/
def execAdd_HL_HL (s : State) : Outcome State Fault Refusal := outcome (addHL .HL s)

/-- R102: `DEC HL`. -/
def execDec_HL (s : State) : Outcome State Fault Refusal := outcome (decR16 .HL s)

/-- R101: `INC SP`. -/
def execInc_SP (s : State) : Outcome State Fault Refusal := outcome (incR16 .SP s)

/-- R100: `ADD HL,SP`. -/
def execAdd_HL_SP (s : State) : Outcome State Fault Refusal := outcome (addHL .SP s)

/-- R102: `DEC SP`. -/
def execDec_SP (s : State) : Outcome State Fault Refusal := outcome (decR16 .SP s)

/-- R103: `ADD SP,e`. -/
def execAdd_SP_e (eb : Byte) (s : State) : Outcome State Fault Refusal := outcome (addSPe eb s)

end Sys2Proof.Machine
end

