-- ==== Sys2Proof/Machine/Alu8.lean ====
section
/-! DEFINITION. The meaning of every 8-bit arithmetic and logic instruction (42_alu8.md R85-R99). Each answers the
state after the instruction, from the state whose `PC` already points past it (10_state.md R12). -/

namespace Sys2Proof.Machine

open Host (Outcome)

/-- R94: `INC B`. -/
def execInc_B (s : State) : Outcome State Fault Refusal := outcome (incR8 .B s)

/-- R95: `DEC B`. -/
def execDec_B (s : State) : Outcome State Fault Refusal := outcome (decR8 .B s)

/-- R94: `INC C`. -/
def execInc_C (s : State) : Outcome State Fault Refusal := outcome (incR8 .C s)

/-- R95: `DEC C`. -/
def execDec_C (s : State) : Outcome State Fault Refusal := outcome (decR8 .C s)

/-- R94: `INC D`. -/
def execInc_D (s : State) : Outcome State Fault Refusal := outcome (incR8 .D s)

/-- R95: `DEC D`. -/
def execDec_D (s : State) : Outcome State Fault Refusal := outcome (decR8 .D s)

/-- R94: `INC E`. -/
def execInc_E (s : State) : Outcome State Fault Refusal := outcome (incR8 .E s)

/-- R95: `DEC E`. -/
def execDec_E (s : State) : Outcome State Fault Refusal := outcome (decR8 .E s)

/-- R94: `INC H`. -/
def execInc_H (s : State) : Outcome State Fault Refusal := outcome (incR8 .H s)

/-- R95: `DEC H`. -/
def execDec_H (s : State) : Outcome State Fault Refusal := outcome (decR8 .H s)

/-- R96: `DAA`. -/
def execDaa (s : State) : Outcome State Fault Refusal := outcome (daaA s)

/-- R94: `INC L`. -/
def execInc_L (s : State) : Outcome State Fault Refusal := outcome (incR8 .L s)

/-- R95: `DEC L`. -/
def execDec_L (s : State) : Outcome State Fault Refusal := outcome (decR8 .L s)

/-- R97: `CPL`. -/
def execCpl (s : State) : Outcome State Fault Refusal := outcome (cplA s)

/-- R94: `INC (HL)`. -/
def execInc_atHL (s : State) : Outcome State Fault Refusal := outcome (incR8 .atHL s)

/-- R95: `DEC (HL)`. -/
def execDec_atHL (s : State) : Outcome State Fault Refusal := outcome (decR8 .atHL s)

/-- R98: `SCF`. -/
def execScf (s : State) : Outcome State Fault Refusal := outcome (scfOp s)

/-- R94: `INC A`. -/
def execInc_A (s : State) : Outcome State Fault Refusal := outcome (incR8 .A s)

/-- R95: `DEC A`. -/
def execDec_A (s : State) : Outcome State Fault Refusal := outcome (decR8 .A s)

/-- R99: `CCF`. -/
def execCcf (s : State) : Outcome State Fault Refusal := outcome (ccfOp s)

/-- R86: `ADD A,B`. -/
def execAdd_A_B (s : State) : Outcome State Fault Refusal := outcome (aluR8 .add .B s)

/-- R86: `ADD A,C`. -/
def execAdd_A_C (s : State) : Outcome State Fault Refusal := outcome (aluR8 .add .C s)

/-- R86: `ADD A,D`. -/
def execAdd_A_D (s : State) : Outcome State Fault Refusal := outcome (aluR8 .add .D s)

/-- R86: `ADD A,E`. -/
def execAdd_A_E (s : State) : Outcome State Fault Refusal := outcome (aluR8 .add .E s)

/-- R86: `ADD A,H`. -/
def execAdd_A_H (s : State) : Outcome State Fault Refusal := outcome (aluR8 .add .H s)

/-- R86: `ADD A,L`. -/
def execAdd_A_L (s : State) : Outcome State Fault Refusal := outcome (aluR8 .add .L s)

/-- R86: `ADD A,(HL)`. -/
def execAdd_A_atHL (s : State) : Outcome State Fault Refusal := outcome (aluR8 .add .atHL s)

/-- R86: `ADD A,A`. -/
def execAdd_A_A (s : State) : Outcome State Fault Refusal := outcome (aluR8 .add .A s)

/-- R87: `ADC A,B`. -/
def execAdc_A_B (s : State) : Outcome State Fault Refusal := outcome (aluR8 .adc .B s)

/-- R87: `ADC A,C`. -/
def execAdc_A_C (s : State) : Outcome State Fault Refusal := outcome (aluR8 .adc .C s)

/-- R87: `ADC A,D`. -/
def execAdc_A_D (s : State) : Outcome State Fault Refusal := outcome (aluR8 .adc .D s)

/-- R87: `ADC A,E`. -/
def execAdc_A_E (s : State) : Outcome State Fault Refusal := outcome (aluR8 .adc .E s)

/-- R87: `ADC A,H`. -/
def execAdc_A_H (s : State) : Outcome State Fault Refusal := outcome (aluR8 .adc .H s)

/-- R87: `ADC A,L`. -/
def execAdc_A_L (s : State) : Outcome State Fault Refusal := outcome (aluR8 .adc .L s)

/-- R87: `ADC A,(HL)`. -/
def execAdc_A_atHL (s : State) : Outcome State Fault Refusal := outcome (aluR8 .adc .atHL s)

/-- R87: `ADC A,A`. -/
def execAdc_A_A (s : State) : Outcome State Fault Refusal := outcome (aluR8 .adc .A s)

/-- R88: `SUB B`. -/
def execSub_B (s : State) : Outcome State Fault Refusal := outcome (aluR8 .sub .B s)

/-- R88: `SUB C`. -/
def execSub_C (s : State) : Outcome State Fault Refusal := outcome (aluR8 .sub .C s)

/-- R88: `SUB D`. -/
def execSub_D (s : State) : Outcome State Fault Refusal := outcome (aluR8 .sub .D s)

/-- R88: `SUB E`. -/
def execSub_E (s : State) : Outcome State Fault Refusal := outcome (aluR8 .sub .E s)

/-- R88: `SUB H`. -/
def execSub_H (s : State) : Outcome State Fault Refusal := outcome (aluR8 .sub .H s)

/-- R88: `SUB L`. -/
def execSub_L (s : State) : Outcome State Fault Refusal := outcome (aluR8 .sub .L s)

/-- R88: `SUB (HL)`. -/
def execSub_atHL (s : State) : Outcome State Fault Refusal := outcome (aluR8 .sub .atHL s)

/-- R88: `SUB A`. -/
def execSub_A (s : State) : Outcome State Fault Refusal := outcome (aluR8 .sub .A s)

/-- R89: `SBC A,B`. -/
def execSbc_A_B (s : State) : Outcome State Fault Refusal := outcome (aluR8 .sbc .B s)

/-- R89: `SBC A,C`. -/
def execSbc_A_C (s : State) : Outcome State Fault Refusal := outcome (aluR8 .sbc .C s)

/-- R89: `SBC A,D`. -/
def execSbc_A_D (s : State) : Outcome State Fault Refusal := outcome (aluR8 .sbc .D s)

/-- R89: `SBC A,E`. -/
def execSbc_A_E (s : State) : Outcome State Fault Refusal := outcome (aluR8 .sbc .E s)

/-- R89: `SBC A,H`. -/
def execSbc_A_H (s : State) : Outcome State Fault Refusal := outcome (aluR8 .sbc .H s)

/-- R89: `SBC A,L`. -/
def execSbc_A_L (s : State) : Outcome State Fault Refusal := outcome (aluR8 .sbc .L s)

/-- R89: `SBC A,(HL)`. -/
def execSbc_A_atHL (s : State) : Outcome State Fault Refusal := outcome (aluR8 .sbc .atHL s)

/-- R89: `SBC A,A`. -/
def execSbc_A_A (s : State) : Outcome State Fault Refusal := outcome (aluR8 .sbc .A s)

/-- R90: `AND B`. -/
def execAnd_B (s : State) : Outcome State Fault Refusal := outcome (aluR8 .and .B s)

/-- R90: `AND C`. -/
def execAnd_C (s : State) : Outcome State Fault Refusal := outcome (aluR8 .and .C s)

/-- R90: `AND D`. -/
def execAnd_D (s : State) : Outcome State Fault Refusal := outcome (aluR8 .and .D s)

/-- R90: `AND E`. -/
def execAnd_E (s : State) : Outcome State Fault Refusal := outcome (aluR8 .and .E s)

/-- R90: `AND H`. -/
def execAnd_H (s : State) : Outcome State Fault Refusal := outcome (aluR8 .and .H s)

/-- R90: `AND L`. -/
def execAnd_L (s : State) : Outcome State Fault Refusal := outcome (aluR8 .and .L s)

/-- R90: `AND (HL)`. -/
def execAnd_atHL (s : State) : Outcome State Fault Refusal := outcome (aluR8 .and .atHL s)

/-- R90: `AND A`. -/
def execAnd_A (s : State) : Outcome State Fault Refusal := outcome (aluR8 .and .A s)

/-- R91: `XOR B`. -/
def execXor_B (s : State) : Outcome State Fault Refusal := outcome (aluR8 .xor .B s)

/-- R91: `XOR C`. -/
def execXor_C (s : State) : Outcome State Fault Refusal := outcome (aluR8 .xor .C s)

/-- R91: `XOR D`. -/
def execXor_D (s : State) : Outcome State Fault Refusal := outcome (aluR8 .xor .D s)

/-- R91: `XOR E`. -/
def execXor_E (s : State) : Outcome State Fault Refusal := outcome (aluR8 .xor .E s)

/-- R91: `XOR H`. -/
def execXor_H (s : State) : Outcome State Fault Refusal := outcome (aluR8 .xor .H s)

/-- R91: `XOR L`. -/
def execXor_L (s : State) : Outcome State Fault Refusal := outcome (aluR8 .xor .L s)

/-- R91: `XOR (HL)`. -/
def execXor_atHL (s : State) : Outcome State Fault Refusal := outcome (aluR8 .xor .atHL s)

/-- R91: `XOR A`. -/
def execXor_A (s : State) : Outcome State Fault Refusal := outcome (aluR8 .xor .A s)

/-- R92: `OR B`. -/
def execOr_B (s : State) : Outcome State Fault Refusal := outcome (aluR8 .or .B s)

/-- R92: `OR C`. -/
def execOr_C (s : State) : Outcome State Fault Refusal := outcome (aluR8 .or .C s)

/-- R92: `OR D`. -/
def execOr_D (s : State) : Outcome State Fault Refusal := outcome (aluR8 .or .D s)

/-- R92: `OR E`. -/
def execOr_E (s : State) : Outcome State Fault Refusal := outcome (aluR8 .or .E s)

/-- R92: `OR H`. -/
def execOr_H (s : State) : Outcome State Fault Refusal := outcome (aluR8 .or .H s)

/-- R92: `OR L`. -/
def execOr_L (s : State) : Outcome State Fault Refusal := outcome (aluR8 .or .L s)

/-- R92: `OR (HL)`. -/
def execOr_atHL (s : State) : Outcome State Fault Refusal := outcome (aluR8 .or .atHL s)

/-- R92: `OR A`. -/
def execOr_A (s : State) : Outcome State Fault Refusal := outcome (aluR8 .or .A s)

/-- R93: `CP B`. -/
def execCp_B (s : State) : Outcome State Fault Refusal := outcome (aluR8 .cp .B s)

/-- R93: `CP C`. -/
def execCp_C (s : State) : Outcome State Fault Refusal := outcome (aluR8 .cp .C s)

/-- R93: `CP D`. -/
def execCp_D (s : State) : Outcome State Fault Refusal := outcome (aluR8 .cp .D s)

/-- R93: `CP E`. -/
def execCp_E (s : State) : Outcome State Fault Refusal := outcome (aluR8 .cp .E s)

/-- R93: `CP H`. -/
def execCp_H (s : State) : Outcome State Fault Refusal := outcome (aluR8 .cp .H s)

/-- R93: `CP L`. -/
def execCp_L (s : State) : Outcome State Fault Refusal := outcome (aluR8 .cp .L s)

/-- R93: `CP (HL)`. -/
def execCp_atHL (s : State) : Outcome State Fault Refusal := outcome (aluR8 .cp .atHL s)

/-- R93: `CP A`. -/
def execCp_A (s : State) : Outcome State Fault Refusal := outcome (aluR8 .cp .A s)

/-- R86: `ADD A,n`. -/
def execAdd_A_n (n : Byte) (s : State) : Outcome State Fault Refusal := outcome (aluImm .add n s)

/-- R87: `ADC A,n`. -/
def execAdc_A_n (n : Byte) (s : State) : Outcome State Fault Refusal := outcome (aluImm .adc n s)

/-- R88: `SUB n`. -/
def execSub_n (n : Byte) (s : State) : Outcome State Fault Refusal := outcome (aluImm .sub n s)

/-- R89: `SBC A,n`. -/
def execSbc_A_n (n : Byte) (s : State) : Outcome State Fault Refusal := outcome (aluImm .sbc n s)

/-- R90: `AND n`. -/
def execAnd_n (n : Byte) (s : State) : Outcome State Fault Refusal := outcome (aluImm .and n s)

/-- R91: `XOR n`. -/
def execXor_n (n : Byte) (s : State) : Outcome State Fault Refusal := outcome (aluImm .xor n s)

/-- R92: `OR n`. -/
def execOr_n (n : Byte) (s : State) : Outcome State Fault Refusal := outcome (aluImm .or n s)

/-- R93: `CP n`. -/
def execCp_n (n : Byte) (s : State) : Outcome State Fault Refusal := outcome (aluImm .cp n s)

end Sys2Proof.Machine
end

