-- ==== Sys2Proof/Machine/Control.lean ====
section
/-! DEFINITION. The meaning of every control transfer (45_control_flow.md R120-R131). Each answers the
state after the instruction, from the state whose `PC` already points past it (10_state.md R12). -/

namespace Sys2Proof.Machine

open Host (Outcome)

/-- R124: `JR e`. -/
def execJr_e (eb : Byte) (s : State) : Outcome State Fault Refusal := outcome (jumpRel eb s)

/-- R125: `JR NZ,e`. -/
def execJr_NZ_e (eb : Byte) (s : State) : Outcome State Fault Refusal := outcome (jumpRelIf .NZ eb s)

/-- R125: `JR Z,e`. -/
def execJr_Z_e (eb : Byte) (s : State) : Outcome State Fault Refusal := outcome (jumpRelIf .Z eb s)

/-- R125: `JR NC,e`. -/
def execJr_NC_e (eb : Byte) (s : State) : Outcome State Fault Refusal := outcome (jumpRelIf .NC eb s)

/-- R125: `JR C,e`. -/
def execJr_C_e (eb : Byte) (s : State) : Outcome State Fault Refusal := outcome (jumpRelIf .C eb s)

/-- R129: `RET NZ`. -/
def execRet_NZ (s : State) : Outcome State Fault Refusal := outcome (retIf .NZ s)

/-- R122: `JP NZ,nn`. -/
def execJp_NZ_nn (nn : Word) (s : State) : Outcome State Fault Refusal := outcome (jumpIf .NZ nn s)

/-- R121: `JP nn`. -/
def execJp_nn (nn : Word) (s : State) : Outcome State Fault Refusal := outcome (jump nn s)

/-- R127: `CALL NZ,nn`. -/
def execCall_NZ_nn (nn : Word) (s : State) : Outcome State Fault Refusal := outcome (callIf .NZ nn s)

/-- R131: `RST 00H`. -/
def execRst_00H (s : State) : Outcome State Fault Refusal := outcome (restart 0 s)

/-- R129: `RET Z`. -/
def execRet_Z (s : State) : Outcome State Fault Refusal := outcome (retIf .Z s)

/-- R128: `RET`. -/
def execRet (s : State) : Outcome State Fault Refusal := outcome (ret s)

/-- R122: `JP Z,nn`. -/
def execJp_Z_nn (nn : Word) (s : State) : Outcome State Fault Refusal := outcome (jumpIf .Z nn s)

/-- R127: `CALL Z,nn`. -/
def execCall_Z_nn (nn : Word) (s : State) : Outcome State Fault Refusal := outcome (callIf .Z nn s)

/-- R126: `CALL nn`. -/
def execCall_nn (nn : Word) (s : State) : Outcome State Fault Refusal := outcome (callTo nn s)

/-- R131: `RST 08H`. -/
def execRst_08H (s : State) : Outcome State Fault Refusal := outcome (restart 1 s)

/-- R129: `RET NC`. -/
def execRet_NC (s : State) : Outcome State Fault Refusal := outcome (retIf .NC s)

/-- R122: `JP NC,nn`. -/
def execJp_NC_nn (nn : Word) (s : State) : Outcome State Fault Refusal := outcome (jumpIf .NC nn s)

/-- R127: `CALL NC,nn`. -/
def execCall_NC_nn (nn : Word) (s : State) : Outcome State Fault Refusal := outcome (callIf .NC nn s)

/-- R131: `RST 10H`. -/
def execRst_10H (s : State) : Outcome State Fault Refusal := outcome (restart 2 s)

/-- R129: `RET C`. -/
def execRet_C (s : State) : Outcome State Fault Refusal := outcome (retIf .C s)

/-- R130: `RETI`. -/
def execReti (s : State) : Outcome State Fault Refusal := outcome (returnFromInterrupt s)

/-- R122: `JP C,nn`. -/
def execJp_C_nn (nn : Word) (s : State) : Outcome State Fault Refusal := outcome (jumpIf .C nn s)

/-- R127: `CALL C,nn`. -/
def execCall_C_nn (nn : Word) (s : State) : Outcome State Fault Refusal := outcome (callIf .C nn s)

/-- R131: `RST 18H`. -/
def execRst_18H (s : State) : Outcome State Fault Refusal := outcome (restart 3 s)

/-- R131: `RST 20H`. -/
def execRst_20H (s : State) : Outcome State Fault Refusal := outcome (restart 4 s)

/-- R123: `JP HL`. -/
def execJp_HL (s : State) : Outcome State Fault Refusal := outcome (jump s.hl s)

/-- R131: `RST 28H`. -/
def execRst_28H (s : State) : Outcome State Fault Refusal := outcome (restart 5 s)

/-- R131: `RST 30H`. -/
def execRst_30H (s : State) : Outcome State Fault Refusal := outcome (restart 6 s)

/-- R131: `RST 38H`. -/
def execRst_38H (s : State) : Outcome State Fault Refusal := outcome (restart 7 s)

end Sys2Proof.Machine
end

