-- ==== Sys2Proof/Machine/Load16.lean ====
section
/-! DEFINITION. The meaning of every 16-bit load and stack instruction (41_load16_stack.md R77-R84). Each answers the
state after the instruction, from the state whose `PC` already points past it (10_state.md R12). -/

namespace Sys2Proof.Machine

open Host (Outcome)

/-- R77: `LD BC,nn`. -/
def execLd_BC_nn (nn : Word) (s : State) : Outcome State Fault Refusal := outcome (ld16 .BC nn s)

/-- R78: `LD (nn),SP`. -/
def execLd_atnn_SP (nn : Word) (s : State) : Outcome State Fault Refusal := outcome (storeSP nn s)

/-- R77: `LD DE,nn`. -/
def execLd_DE_nn (nn : Word) (s : State) : Outcome State Fault Refusal := outcome (ld16 .DE nn s)

/-- R77: `LD HL,nn`. -/
def execLd_HL_nn (nn : Word) (s : State) : Outcome State Fault Refusal := outcome (ld16 .HL nn s)

/-- R77: `LD SP,nn`. -/
def execLd_SP_nn (nn : Word) (s : State) : Outcome State Fault Refusal := outcome (ld16 .SP nn s)

/-- R84: `POP BC`. -/
def execPop_BC (s : State) : Outcome State Fault Refusal := outcome (popPair .BC s)

/-- R83: `PUSH BC`. -/
def execPush_BC (s : State) : Outcome State Fault Refusal := outcome (pushPair .BC s)

/-- R84: `POP DE`. -/
def execPop_DE (s : State) : Outcome State Fault Refusal := outcome (popPair .DE s)

/-- R83: `PUSH DE`. -/
def execPush_DE (s : State) : Outcome State Fault Refusal := outcome (pushPair .DE s)

/-- R84: `POP HL`. -/
def execPop_HL (s : State) : Outcome State Fault Refusal := outcome (popPair .HL s)

/-- R83: `PUSH HL`. -/
def execPush_HL (s : State) : Outcome State Fault Refusal := outcome (pushPair .HL s)

/-- R84: `POP AF`. -/
def execPop_AF (s : State) : Outcome State Fault Refusal := outcome (popPair .AF s)

/-- R83: `PUSH AF`. -/
def execPush_AF (s : State) : Outcome State Fault Refusal := outcome (pushPair .AF s)

/-- R80: `LD HL,SP+e`. -/
def execLd_HL_SPe (eb : Byte) (s : State) : Outcome State Fault Refusal := outcome (ldHLSPe eb s)

/-- R79: `LD SP,HL`. -/
def execLd_SP_HL (s : State) : Outcome State Fault Refusal := outcome (ldSPHL s)

end Sys2Proof.Machine
end

