-- ==== Sys2Proof/Machine/Load8.lean ====
section
/-! DEFINITION. The meaning of every 8-bit load and store (40_load8.md R58-R76). Each answers the
state after the instruction, from the state whose `PC` already points past it (10_state.md R12). -/

namespace Sys2Proof.Machine

open Host (Outcome)

/-- R65: `LD (BC),A`. -/
def execLd_atBC_A (s : State) : Outcome State Fault Refusal := outcome (storeA s.bc s)

/-- R59: `LD B,n`. -/
def execLd_B_n (n : Byte) (s : State) : Outcome State Fault Refusal := outcome (ld8n .B n s)

/-- R63: `LD A,(BC)`. -/
def execLd_A_atBC (s : State) : Outcome State Fault Refusal := outcome (loadA s.bc s)

/-- R59: `LD C,n`. -/
def execLd_C_n (n : Byte) (s : State) : Outcome State Fault Refusal := outcome (ld8n .C n s)

/-- R66: `LD (DE),A`. -/
def execLd_atDE_A (s : State) : Outcome State Fault Refusal := outcome (storeA s.de s)

/-- R59: `LD D,n`. -/
def execLd_D_n (n : Byte) (s : State) : Outcome State Fault Refusal := outcome (ld8n .D n s)

/-- R64: `LD A,(DE)`. -/
def execLd_A_atDE (s : State) : Outcome State Fault Refusal := outcome (loadA s.de s)

/-- R59: `LD E,n`. -/
def execLd_E_n (n : Byte) (s : State) : Outcome State Fault Refusal := outcome (ld8n .E n s)

/-- R73: `LD (HL+),A`. -/
def execLd_atHLinc_A (s : State) : Outcome State Fault Refusal := outcome (storeAStep 1 s)

/-- R59: `LD H,n`. -/
def execLd_H_n (n : Byte) (s : State) : Outcome State Fault Refusal := outcome (ld8n .H n s)

/-- R74: `LD A,(HL+)`. -/
def execLd_A_atHLinc (s : State) : Outcome State Fault Refusal := outcome (loadAStep 1 s)

/-- R59: `LD L,n`. -/
def execLd_L_n (n : Byte) (s : State) : Outcome State Fault Refusal := outcome (ld8n .L n s)

/-- R75: `LD (HL-),A`. -/
def execLd_atHLdec_A (s : State) : Outcome State Fault Refusal := outcome (storeAStep (-1) s)

/-- R62: `LD (HL),n`. -/
def execLd_atHL_n (n : Byte) (s : State) : Outcome State Fault Refusal := outcome (ld8n .atHL n s)

/-- R76: `LD A,(HL-)`. -/
def execLd_A_atHLdec (s : State) : Outcome State Fault Refusal := outcome (loadAStep (-1) s)

/-- R59: `LD A,n`. -/
def execLd_A_n (n : Byte) (s : State) : Outcome State Fault Refusal := outcome (ld8n .A n s)

/-- R58: `LD B,B`. -/
def execLd_B_B (s : State) : Outcome State Fault Refusal := outcome (ld8 .B .B s)

/-- R58: `LD B,C`. -/
def execLd_B_C (s : State) : Outcome State Fault Refusal := outcome (ld8 .B .C s)

/-- R58: `LD B,D`. -/
def execLd_B_D (s : State) : Outcome State Fault Refusal := outcome (ld8 .B .D s)

/-- R58: `LD B,E`. -/
def execLd_B_E (s : State) : Outcome State Fault Refusal := outcome (ld8 .B .E s)

/-- R58: `LD B,H`. -/
def execLd_B_H (s : State) : Outcome State Fault Refusal := outcome (ld8 .B .H s)

/-- R58: `LD B,L`. -/
def execLd_B_L (s : State) : Outcome State Fault Refusal := outcome (ld8 .B .L s)

/-- R60: `LD B,(HL)`. -/
def execLd_B_atHL (s : State) : Outcome State Fault Refusal := outcome (ld8 .B .atHL s)

/-- R58: `LD B,A`. -/
def execLd_B_A (s : State) : Outcome State Fault Refusal := outcome (ld8 .B .A s)

/-- R58: `LD C,B`. -/
def execLd_C_B (s : State) : Outcome State Fault Refusal := outcome (ld8 .C .B s)

/-- R58: `LD C,C`. -/
def execLd_C_C (s : State) : Outcome State Fault Refusal := outcome (ld8 .C .C s)

/-- R58: `LD C,D`. -/
def execLd_C_D (s : State) : Outcome State Fault Refusal := outcome (ld8 .C .D s)

/-- R58: `LD C,E`. -/
def execLd_C_E (s : State) : Outcome State Fault Refusal := outcome (ld8 .C .E s)

/-- R58: `LD C,H`. -/
def execLd_C_H (s : State) : Outcome State Fault Refusal := outcome (ld8 .C .H s)

/-- R58: `LD C,L`. -/
def execLd_C_L (s : State) : Outcome State Fault Refusal := outcome (ld8 .C .L s)

/-- R60: `LD C,(HL)`. -/
def execLd_C_atHL (s : State) : Outcome State Fault Refusal := outcome (ld8 .C .atHL s)

/-- R58: `LD C,A`. -/
def execLd_C_A (s : State) : Outcome State Fault Refusal := outcome (ld8 .C .A s)

/-- R58: `LD D,B`. -/
def execLd_D_B (s : State) : Outcome State Fault Refusal := outcome (ld8 .D .B s)

/-- R58: `LD D,C`. -/
def execLd_D_C (s : State) : Outcome State Fault Refusal := outcome (ld8 .D .C s)

/-- R58: `LD D,D`. -/
def execLd_D_D (s : State) : Outcome State Fault Refusal := outcome (ld8 .D .D s)

/-- R58: `LD D,E`. -/
def execLd_D_E (s : State) : Outcome State Fault Refusal := outcome (ld8 .D .E s)

/-- R58: `LD D,H`. -/
def execLd_D_H (s : State) : Outcome State Fault Refusal := outcome (ld8 .D .H s)

/-- R58: `LD D,L`. -/
def execLd_D_L (s : State) : Outcome State Fault Refusal := outcome (ld8 .D .L s)

/-- R60: `LD D,(HL)`. -/
def execLd_D_atHL (s : State) : Outcome State Fault Refusal := outcome (ld8 .D .atHL s)

/-- R58: `LD D,A`. -/
def execLd_D_A (s : State) : Outcome State Fault Refusal := outcome (ld8 .D .A s)

/-- R58: `LD E,B`. -/
def execLd_E_B (s : State) : Outcome State Fault Refusal := outcome (ld8 .E .B s)

/-- R58: `LD E,C`. -/
def execLd_E_C (s : State) : Outcome State Fault Refusal := outcome (ld8 .E .C s)

/-- R58: `LD E,D`. -/
def execLd_E_D (s : State) : Outcome State Fault Refusal := outcome (ld8 .E .D s)

/-- R58: `LD E,E`. -/
def execLd_E_E (s : State) : Outcome State Fault Refusal := outcome (ld8 .E .E s)

/-- R58: `LD E,H`. -/
def execLd_E_H (s : State) : Outcome State Fault Refusal := outcome (ld8 .E .H s)

/-- R58: `LD E,L`. -/
def execLd_E_L (s : State) : Outcome State Fault Refusal := outcome (ld8 .E .L s)

/-- R60: `LD E,(HL)`. -/
def execLd_E_atHL (s : State) : Outcome State Fault Refusal := outcome (ld8 .E .atHL s)

/-- R58: `LD E,A`. -/
def execLd_E_A (s : State) : Outcome State Fault Refusal := outcome (ld8 .E .A s)

/-- R58: `LD H,B`. -/
def execLd_H_B (s : State) : Outcome State Fault Refusal := outcome (ld8 .H .B s)

/-- R58: `LD H,C`. -/
def execLd_H_C (s : State) : Outcome State Fault Refusal := outcome (ld8 .H .C s)

/-- R58: `LD H,D`. -/
def execLd_H_D (s : State) : Outcome State Fault Refusal := outcome (ld8 .H .D s)

/-- R58: `LD H,E`. -/
def execLd_H_E (s : State) : Outcome State Fault Refusal := outcome (ld8 .H .E s)

/-- R58: `LD H,H`. -/
def execLd_H_H (s : State) : Outcome State Fault Refusal := outcome (ld8 .H .H s)

/-- R58: `LD H,L`. -/
def execLd_H_L (s : State) : Outcome State Fault Refusal := outcome (ld8 .H .L s)

/-- R60: `LD H,(HL)`. -/
def execLd_H_atHL (s : State) : Outcome State Fault Refusal := outcome (ld8 .H .atHL s)

/-- R58: `LD H,A`. -/
def execLd_H_A (s : State) : Outcome State Fault Refusal := outcome (ld8 .H .A s)

/-- R58: `LD L,B`. -/
def execLd_L_B (s : State) : Outcome State Fault Refusal := outcome (ld8 .L .B s)

/-- R58: `LD L,C`. -/
def execLd_L_C (s : State) : Outcome State Fault Refusal := outcome (ld8 .L .C s)

/-- R58: `LD L,D`. -/
def execLd_L_D (s : State) : Outcome State Fault Refusal := outcome (ld8 .L .D s)

/-- R58: `LD L,E`. -/
def execLd_L_E (s : State) : Outcome State Fault Refusal := outcome (ld8 .L .E s)

/-- R58: `LD L,H`. -/
def execLd_L_H (s : State) : Outcome State Fault Refusal := outcome (ld8 .L .H s)

/-- R58: `LD L,L`. -/
def execLd_L_L (s : State) : Outcome State Fault Refusal := outcome (ld8 .L .L s)

/-- R60: `LD L,(HL)`. -/
def execLd_L_atHL (s : State) : Outcome State Fault Refusal := outcome (ld8 .L .atHL s)

/-- R58: `LD L,A`. -/
def execLd_L_A (s : State) : Outcome State Fault Refusal := outcome (ld8 .L .A s)

/-- R61: `LD (HL),B`. -/
def execLd_atHL_B (s : State) : Outcome State Fault Refusal := outcome (ld8 .atHL .B s)

/-- R61: `LD (HL),C`. -/
def execLd_atHL_C (s : State) : Outcome State Fault Refusal := outcome (ld8 .atHL .C s)

/-- R61: `LD (HL),D`. -/
def execLd_atHL_D (s : State) : Outcome State Fault Refusal := outcome (ld8 .atHL .D s)

/-- R61: `LD (HL),E`. -/
def execLd_atHL_E (s : State) : Outcome State Fault Refusal := outcome (ld8 .atHL .E s)

/-- R61: `LD (HL),H`. -/
def execLd_atHL_H (s : State) : Outcome State Fault Refusal := outcome (ld8 .atHL .H s)

/-- R61: `LD (HL),L`. -/
def execLd_atHL_L (s : State) : Outcome State Fault Refusal := outcome (ld8 .atHL .L s)

/-- R61: `LD (HL),A`. -/
def execLd_atHL_A (s : State) : Outcome State Fault Refusal := outcome (ld8 .atHL .A s)

/-- R58: `LD A,B`. -/
def execLd_A_B (s : State) : Outcome State Fault Refusal := outcome (ld8 .A .B s)

/-- R58: `LD A,C`. -/
def execLd_A_C (s : State) : Outcome State Fault Refusal := outcome (ld8 .A .C s)

/-- R58: `LD A,D`. -/
def execLd_A_D (s : State) : Outcome State Fault Refusal := outcome (ld8 .A .D s)

/-- R58: `LD A,E`. -/
def execLd_A_E (s : State) : Outcome State Fault Refusal := outcome (ld8 .A .E s)

/-- R58: `LD A,H`. -/
def execLd_A_H (s : State) : Outcome State Fault Refusal := outcome (ld8 .A .H s)

/-- R58: `LD A,L`. -/
def execLd_A_L (s : State) : Outcome State Fault Refusal := outcome (ld8 .A .L s)

/-- R60: `LD A,(HL)`. -/
def execLd_A_atHL (s : State) : Outcome State Fault Refusal := outcome (ld8 .A .atHL s)

/-- R58: `LD A,A`. -/
def execLd_A_A (s : State) : Outcome State Fault Refusal := outcome (ld8 .A .A s)

/-- R70: `LDH (n),A`. -/
def execLdh_atn_A (n : Byte) (s : State) : Outcome State Fault Refusal := outcome (storeA (highPage n) s)

/-- R72: `LDH (C),A`. -/
def execLdh_atC_A (s : State) : Outcome State Fault Refusal := outcome (storeA (highPage s.cpu.c) s)

/-- R68: `LD (nn),A`. -/
def execLd_atnn_A (nn : Word) (s : State) : Outcome State Fault Refusal := outcome (storeA nn s)

/-- R69: `LDH A,(n)`. -/
def execLdh_A_atn (n : Byte) (s : State) : Outcome State Fault Refusal := outcome (loadA (highPage n) s)

/-- R71: `LDH A,(C)`. -/
def execLdh_A_atC (s : State) : Outcome State Fault Refusal := outcome (loadA (highPage s.cpu.c) s)

/-- R67: `LD A,(nn)`. -/
def execLd_A_atnn (nn : Word) (s : State) : Outcome State Fault Refusal := outcome (loadA nn s)

end Sys2Proof.Machine
end

