-- ==== Sys2Proof/Machine/Prefixed.lean ====
section
/-! DEFINITION. The meaning of every prefixed instruction (44_rotate_shift_bit.md R108-R119). Each answers the
state after the instruction, from the state whose `PC` already points past it (10_state.md R12). -/

namespace Sys2Proof.Machine

open Host (Outcome)

/-- R109: `RLC r`. -/
def execRlc (r : R8) (s : State) : Outcome State Fault Refusal := outcome (rotR8 .rlc r s)

/-- R110: `RRC r`. -/
def execRrc (r : R8) (s : State) : Outcome State Fault Refusal := outcome (rotR8 .rrc r s)

/-- R111: `RL r`. -/
def execRl (r : R8) (s : State) : Outcome State Fault Refusal := outcome (rotR8 .rl r s)

/-- R112: `RR r`. -/
def execRr (r : R8) (s : State) : Outcome State Fault Refusal := outcome (rotR8 .rr r s)

/-- R113: `SLA r`. -/
def execSla (r : R8) (s : State) : Outcome State Fault Refusal := outcome (rotR8 .sla r s)

/-- R114: `SRA r`. -/
def execSra (r : R8) (s : State) : Outcome State Fault Refusal := outcome (rotR8 .sra r s)

/-- R115: `SWAP r`. -/
def execSwap (r : R8) (s : State) : Outcome State Fault Refusal := outcome (rotR8 .swap r s)

/-- R116: `SRL r`. -/
def execSrl (r : R8) (s : State) : Outcome State Fault Refusal := outcome (rotR8 .srl r s)

/-- R117: `BIT 0,r`. -/
def execBit_0 (r : R8) (s : State) : Outcome State Fault Refusal := outcome (bitR8 0 r s)

/-- R117: `BIT 1,r`. -/
def execBit_1 (r : R8) (s : State) : Outcome State Fault Refusal := outcome (bitR8 1 r s)

/-- R117: `BIT 2,r`. -/
def execBit_2 (r : R8) (s : State) : Outcome State Fault Refusal := outcome (bitR8 2 r s)

/-- R117: `BIT 3,r`. -/
def execBit_3 (r : R8) (s : State) : Outcome State Fault Refusal := outcome (bitR8 3 r s)

/-- R117: `BIT 4,r`. -/
def execBit_4 (r : R8) (s : State) : Outcome State Fault Refusal := outcome (bitR8 4 r s)

/-- R117: `BIT 5,r`. -/
def execBit_5 (r : R8) (s : State) : Outcome State Fault Refusal := outcome (bitR8 5 r s)

/-- R117: `BIT 6,r`. -/
def execBit_6 (r : R8) (s : State) : Outcome State Fault Refusal := outcome (bitR8 6 r s)

/-- R117: `BIT 7,r`. -/
def execBit_7 (r : R8) (s : State) : Outcome State Fault Refusal := outcome (bitR8 7 r s)

/-- R118: `RES 0,r`. -/
def execRes_0 (r : R8) (s : State) : Outcome State Fault Refusal := outcome (resR8 0 r s)

/-- R118: `RES 1,r`. -/
def execRes_1 (r : R8) (s : State) : Outcome State Fault Refusal := outcome (resR8 1 r s)

/-- R118: `RES 2,r`. -/
def execRes_2 (r : R8) (s : State) : Outcome State Fault Refusal := outcome (resR8 2 r s)

/-- R118: `RES 3,r`. -/
def execRes_3 (r : R8) (s : State) : Outcome State Fault Refusal := outcome (resR8 3 r s)

/-- R118: `RES 4,r`. -/
def execRes_4 (r : R8) (s : State) : Outcome State Fault Refusal := outcome (resR8 4 r s)

/-- R118: `RES 5,r`. -/
def execRes_5 (r : R8) (s : State) : Outcome State Fault Refusal := outcome (resR8 5 r s)

/-- R118: `RES 6,r`. -/
def execRes_6 (r : R8) (s : State) : Outcome State Fault Refusal := outcome (resR8 6 r s)

/-- R118: `RES 7,r`. -/
def execRes_7 (r : R8) (s : State) : Outcome State Fault Refusal := outcome (resR8 7 r s)

/-- R119: `SET 0,r`. -/
def execSet_0 (r : R8) (s : State) : Outcome State Fault Refusal := outcome (setR8 0 r s)

/-- R119: `SET 1,r`. -/
def execSet_1 (r : R8) (s : State) : Outcome State Fault Refusal := outcome (setR8 1 r s)

/-- R119: `SET 2,r`. -/
def execSet_2 (r : R8) (s : State) : Outcome State Fault Refusal := outcome (setR8 2 r s)

/-- R119: `SET 3,r`. -/
def execSet_3 (r : R8) (s : State) : Outcome State Fault Refusal := outcome (setR8 3 r s)

/-- R119: `SET 4,r`. -/
def execSet_4 (r : R8) (s : State) : Outcome State Fault Refusal := outcome (setR8 4 r s)

/-- R119: `SET 5,r`. -/
def execSet_5 (r : R8) (s : State) : Outcome State Fault Refusal := outcome (setR8 5 r s)

/-- R119: `SET 6,r`. -/
def execSet_6 (r : R8) (s : State) : Outcome State Fault Refusal := outcome (setR8 6 r s)

/-- R119: `SET 7,r`. -/
def execSet_7 (r : R8) (s : State) : Outcome State Fault Refusal := outcome (setR8 7 r s)

end Sys2Proof.Machine
end

