-- ==== Sys2Proof/Machine/Rotate.lean ====
section
/-! DEFINITION. The meaning of every accumulator rotate (44_rotate_shift_bit.md R104-R107). Each answers the
state after the instruction, from the state whose `PC` already points past it (10_state.md R12). -/

namespace Sys2Proof.Machine

open Host (Outcome)

/-- R104: `RLCA`. -/
def execRlca (s : State) : Outcome State Fault Refusal := outcome (rotA .rlc s)

/-- R105: `RRCA`. -/
def execRrca (s : State) : Outcome State Fault Refusal := outcome (rotA .rrc s)

/-- R106: `RLA`. -/
def execRla (s : State) : Outcome State Fault Refusal := outcome (rotA .rl s)

/-- R107: `RRA`. -/
def execRra (s : State) : Outcome State Fault Refusal := outcome (rotA .rr s)

end Sys2Proof.Machine
end

