-- ==== Sys2Proof/Machine/System.lean ====
section
/-! DEFINITION. The meaning of every system instruction, the prefix byte and the undefined opcodes (46_system.md R132-R138). Each answers the
state after the instruction, from the state whose `PC` already points past it (10_state.md R12). -/

namespace Sys2Proof.Machine

open Host (Outcome)

/-- R132: `NOP`. -/
def execNop (s : State) : Outcome State Fault Refusal := outcome (nopOp s)

/-- R134: `STOP`. -/
def execStop (s : State) : Outcome State Fault Refusal := outcome (haltOp s)

/-- R133: `HALT`. -/
def execHalt (s : State) : Outcome State Fault Refusal := outcome (haltOp s)

/-- R137: `PREFIX CB`. -/
def execPrefixCB (op2 : Byte) (s : State) : Outcome State Fault Refusal := outcome (prefixedByFields op2 s)

/-- R138: `ILLEGAL`. -/
def execIllegal (op : Byte) (s : State) : Outcome State Fault Refusal := undefinedOpcode op s

/-- R135: `DI`. -/
def execDi (s : State) : Outcome State Fault Refusal := outcome (imeOp false s)

/-- R136: `EI`. -/
def execEi (s : State) : Outcome State Fault Refusal := outcome (imeOp true s)

end Sys2Proof.Machine
end

