-- ==== Sys2Proof/Machine/Dispatch.lean ====
section
/-! DEFINITION. Execution: one arm for each constructor of Instr, each a call of its meaning. -/

namespace Sys2Proof.Machine

def exec (i : Instr) (s : State) : Host.Outcome State Fault Refusal :=
  match i with
  -- 8-bit loads and stores (40_load8.md)
  | .ld_atBC_A => Sys2Proof.Machine.execLd_atBC_A s
  | .ld_B_n n => Sys2Proof.Machine.execLd_B_n n s
  | .ld_A_atBC => Sys2Proof.Machine.execLd_A_atBC s
  | .ld_C_n n => Sys2Proof.Machine.execLd_C_n n s
  | .ld_atDE_A => Sys2Proof.Machine.execLd_atDE_A s
  | .ld_D_n n => Sys2Proof.Machine.execLd_D_n n s
  | .ld_A_atDE => Sys2Proof.Machine.execLd_A_atDE s
  | .ld_E_n n => Sys2Proof.Machine.execLd_E_n n s
  | .ld_atHLinc_A => Sys2Proof.Machine.execLd_atHLinc_A s
  | .ld_H_n n => Sys2Proof.Machine.execLd_H_n n s
  | .ld_A_atHLinc => Sys2Proof.Machine.execLd_A_atHLinc s
  | .ld_L_n n => Sys2Proof.Machine.execLd_L_n n s
  | .ld_atHLdec_A => Sys2Proof.Machine.execLd_atHLdec_A s
  | .ld_atHL_n n => Sys2Proof.Machine.execLd_atHL_n n s
  | .ld_A_atHLdec => Sys2Proof.Machine.execLd_A_atHLdec s
  | .ld_A_n n => Sys2Proof.Machine.execLd_A_n n s
  | .ld_B_B => Sys2Proof.Machine.execLd_B_B s
  | .ld_B_C => Sys2Proof.Machine.execLd_B_C s
  | .ld_B_D => Sys2Proof.Machine.execLd_B_D s
  | .ld_B_E => Sys2Proof.Machine.execLd_B_E s
  | .ld_B_H => Sys2Proof.Machine.execLd_B_H s
  | .ld_B_L => Sys2Proof.Machine.execLd_B_L s
  | .ld_B_atHL => Sys2Proof.Machine.execLd_B_atHL s
  | .ld_B_A => Sys2Proof.Machine.execLd_B_A s
  | .ld_C_B => Sys2Proof.Machine.execLd_C_B s
  | .ld_C_C => Sys2Proof.Machine.execLd_C_C s
  | .ld_C_D => Sys2Proof.Machine.execLd_C_D s
  | .ld_C_E => Sys2Proof.Machine.execLd_C_E s
  | .ld_C_H => Sys2Proof.Machine.execLd_C_H s
  | .ld_C_L => Sys2Proof.Machine.execLd_C_L s
  | .ld_C_atHL => Sys2Proof.Machine.execLd_C_atHL s
  | .ld_C_A => Sys2Proof.Machine.execLd_C_A s
  | .ld_D_B => Sys2Proof.Machine.execLd_D_B s
  | .ld_D_C => Sys2Proof.Machine.execLd_D_C s
  | .ld_D_D => Sys2Proof.Machine.execLd_D_D s
  | .ld_D_E => Sys2Proof.Machine.execLd_D_E s
  | .ld_D_H => Sys2Proof.Machine.execLd_D_H s
  | .ld_D_L => Sys2Proof.Machine.execLd_D_L s
  | .ld_D_atHL => Sys2Proof.Machine.execLd_D_atHL s
  | .ld_D_A => Sys2Proof.Machine.execLd_D_A s
  | .ld_E_B => Sys2Proof.Machine.execLd_E_B s
  | .ld_E_C => Sys2Proof.Machine.execLd_E_C s
  | .ld_E_D => Sys2Proof.Machine.execLd_E_D s
  | .ld_E_E => Sys2Proof.Machine.execLd_E_E s
  | .ld_E_H => Sys2Proof.Machine.execLd_E_H s
  | .ld_E_L => Sys2Proof.Machine.execLd_E_L s
  | .ld_E_atHL => Sys2Proof.Machine.execLd_E_atHL s
  | .ld_E_A => Sys2Proof.Machine.execLd_E_A s
  | .ld_H_B => Sys2Proof.Machine.execLd_H_B s
  | .ld_H_C => Sys2Proof.Machine.execLd_H_C s
  | .ld_H_D => Sys2Proof.Machine.execLd_H_D s
  | .ld_H_E => Sys2Proof.Machine.execLd_H_E s
  | .ld_H_H => Sys2Proof.Machine.execLd_H_H s
  | .ld_H_L => Sys2Proof.Machine.execLd_H_L s
  | .ld_H_atHL => Sys2Proof.Machine.execLd_H_atHL s
  | .ld_H_A => Sys2Proof.Machine.execLd_H_A s
  | .ld_L_B => Sys2Proof.Machine.execLd_L_B s
  | .ld_L_C => Sys2Proof.Machine.execLd_L_C s
  | .ld_L_D => Sys2Proof.Machine.execLd_L_D s
  | .ld_L_E => Sys2Proof.Machine.execLd_L_E s
  | .ld_L_H => Sys2Proof.Machine.execLd_L_H s
  | .ld_L_L => Sys2Proof.Machine.execLd_L_L s
  | .ld_L_atHL => Sys2Proof.Machine.execLd_L_atHL s
  | .ld_L_A => Sys2Proof.Machine.execLd_L_A s
  | .ld_atHL_B => Sys2Proof.Machine.execLd_atHL_B s
  | .ld_atHL_C => Sys2Proof.Machine.execLd_atHL_C s
  | .ld_atHL_D => Sys2Proof.Machine.execLd_atHL_D s
  | .ld_atHL_E => Sys2Proof.Machine.execLd_atHL_E s
  | .ld_atHL_H => Sys2Proof.Machine.execLd_atHL_H s
  | .ld_atHL_L => Sys2Proof.Machine.execLd_atHL_L s
  | .ld_atHL_A => Sys2Proof.Machine.execLd_atHL_A s
  | .ld_A_B => Sys2Proof.Machine.execLd_A_B s
  | .ld_A_C => Sys2Proof.Machine.execLd_A_C s
  | .ld_A_D => Sys2Proof.Machine.execLd_A_D s
  | .ld_A_E => Sys2Proof.Machine.execLd_A_E s
  | .ld_A_H => Sys2Proof.Machine.execLd_A_H s
  | .ld_A_L => Sys2Proof.Machine.execLd_A_L s
  | .ld_A_atHL => Sys2Proof.Machine.execLd_A_atHL s
  | .ld_A_A => Sys2Proof.Machine.execLd_A_A s
  | .ldh_atn_A n => Sys2Proof.Machine.execLdh_atn_A n s
  | .ldh_atC_A => Sys2Proof.Machine.execLdh_atC_A s
  | .ld_atnn_A nn => Sys2Proof.Machine.execLd_atnn_A nn s
  | .ldh_A_atn n => Sys2Proof.Machine.execLdh_A_atn n s
  | .ldh_A_atC => Sys2Proof.Machine.execLdh_A_atC s
  | .ld_A_atnn nn => Sys2Proof.Machine.execLd_A_atnn nn s
  -- 16-bit loads and the stack (41_load16_stack.md)
  | .ld_BC_nn nn => Sys2Proof.Machine.execLd_BC_nn nn s
  | .ld_atnn_SP nn => Sys2Proof.Machine.execLd_atnn_SP nn s
  | .ld_DE_nn nn => Sys2Proof.Machine.execLd_DE_nn nn s
  | .ld_HL_nn nn => Sys2Proof.Machine.execLd_HL_nn nn s
  | .ld_SP_nn nn => Sys2Proof.Machine.execLd_SP_nn nn s
  | .pop_BC => Sys2Proof.Machine.execPop_BC s
  | .push_BC => Sys2Proof.Machine.execPush_BC s
  | .pop_DE => Sys2Proof.Machine.execPop_DE s
  | .push_DE => Sys2Proof.Machine.execPush_DE s
  | .pop_HL => Sys2Proof.Machine.execPop_HL s
  | .push_HL => Sys2Proof.Machine.execPush_HL s
  | .pop_AF => Sys2Proof.Machine.execPop_AF s
  | .push_AF => Sys2Proof.Machine.execPush_AF s
  | .ld_HL_SPe eb => Sys2Proof.Machine.execLd_HL_SPe eb s
  | .ld_SP_HL => Sys2Proof.Machine.execLd_SP_HL s
  -- 8-bit arithmetic and logic (42_alu8.md)
  | .inc_B => Sys2Proof.Machine.execInc_B s
  | .dec_B => Sys2Proof.Machine.execDec_B s
  | .inc_C => Sys2Proof.Machine.execInc_C s
  | .dec_C => Sys2Proof.Machine.execDec_C s
  | .inc_D => Sys2Proof.Machine.execInc_D s
  | .dec_D => Sys2Proof.Machine.execDec_D s
  | .inc_E => Sys2Proof.Machine.execInc_E s
  | .dec_E => Sys2Proof.Machine.execDec_E s
  | .inc_H => Sys2Proof.Machine.execInc_H s
  | .dec_H => Sys2Proof.Machine.execDec_H s
  | .daa => Sys2Proof.Machine.execDaa s
  | .inc_L => Sys2Proof.Machine.execInc_L s
  | .dec_L => Sys2Proof.Machine.execDec_L s
  | .cpl => Sys2Proof.Machine.execCpl s
  | .inc_atHL => Sys2Proof.Machine.execInc_atHL s
  | .dec_atHL => Sys2Proof.Machine.execDec_atHL s
  | .scf => Sys2Proof.Machine.execScf s
  | .inc_A => Sys2Proof.Machine.execInc_A s
  | .dec_A => Sys2Proof.Machine.execDec_A s
  | .ccf => Sys2Proof.Machine.execCcf s
  | .add_A_B => Sys2Proof.Machine.execAdd_A_B s
  | .add_A_C => Sys2Proof.Machine.execAdd_A_C s
  | .add_A_D => Sys2Proof.Machine.execAdd_A_D s
  | .add_A_E => Sys2Proof.Machine.execAdd_A_E s
  | .add_A_H => Sys2Proof.Machine.execAdd_A_H s
  | .add_A_L => Sys2Proof.Machine.execAdd_A_L s
  | .add_A_atHL => Sys2Proof.Machine.execAdd_A_atHL s
  | .add_A_A => Sys2Proof.Machine.execAdd_A_A s
  | .adc_A_B => Sys2Proof.Machine.execAdc_A_B s
  | .adc_A_C => Sys2Proof.Machine.execAdc_A_C s
  | .adc_A_D => Sys2Proof.Machine.execAdc_A_D s
  | .adc_A_E => Sys2Proof.Machine.execAdc_A_E s
  | .adc_A_H => Sys2Proof.Machine.execAdc_A_H s
  | .adc_A_L => Sys2Proof.Machine.execAdc_A_L s
  | .adc_A_atHL => Sys2Proof.Machine.execAdc_A_atHL s
  | .adc_A_A => Sys2Proof.Machine.execAdc_A_A s
  | .sub_B => Sys2Proof.Machine.execSub_B s
  | .sub_C => Sys2Proof.Machine.execSub_C s
  | .sub_D => Sys2Proof.Machine.execSub_D s
  | .sub_E => Sys2Proof.Machine.execSub_E s
  | .sub_H => Sys2Proof.Machine.execSub_H s
  | .sub_L => Sys2Proof.Machine.execSub_L s
  | .sub_atHL => Sys2Proof.Machine.execSub_atHL s
  | .sub_A => Sys2Proof.Machine.execSub_A s
  | .sbc_A_B => Sys2Proof.Machine.execSbc_A_B s
  | .sbc_A_C => Sys2Proof.Machine.execSbc_A_C s
  | .sbc_A_D => Sys2Proof.Machine.execSbc_A_D s
  | .sbc_A_E => Sys2Proof.Machine.execSbc_A_E s
  | .sbc_A_H => Sys2Proof.Machine.execSbc_A_H s
  | .sbc_A_L => Sys2Proof.Machine.execSbc_A_L s
  | .sbc_A_atHL => Sys2Proof.Machine.execSbc_A_atHL s
  | .sbc_A_A => Sys2Proof.Machine.execSbc_A_A s
  | .and_B => Sys2Proof.Machine.execAnd_B s
  | .and_C => Sys2Proof.Machine.execAnd_C s
  | .and_D => Sys2Proof.Machine.execAnd_D s
  | .and_E => Sys2Proof.Machine.execAnd_E s
  | .and_H => Sys2Proof.Machine.execAnd_H s
  | .and_L => Sys2Proof.Machine.execAnd_L s
  | .and_atHL => Sys2Proof.Machine.execAnd_atHL s
  | .and_A => Sys2Proof.Machine.execAnd_A s
  | .xor_B => Sys2Proof.Machine.execXor_B s
  | .xor_C => Sys2Proof.Machine.execXor_C s
  | .xor_D => Sys2Proof.Machine.execXor_D s
  | .xor_E => Sys2Proof.Machine.execXor_E s
  | .xor_H => Sys2Proof.Machine.execXor_H s
  | .xor_L => Sys2Proof.Machine.execXor_L s
  | .xor_atHL => Sys2Proof.Machine.execXor_atHL s
  | .xor_A => Sys2Proof.Machine.execXor_A s
  | .or_B => Sys2Proof.Machine.execOr_B s
  | .or_C => Sys2Proof.Machine.execOr_C s
  | .or_D => Sys2Proof.Machine.execOr_D s
  | .or_E => Sys2Proof.Machine.execOr_E s
  | .or_H => Sys2Proof.Machine.execOr_H s
  | .or_L => Sys2Proof.Machine.execOr_L s
  | .or_atHL => Sys2Proof.Machine.execOr_atHL s
  | .or_A => Sys2Proof.Machine.execOr_A s
  | .cp_B => Sys2Proof.Machine.execCp_B s
  | .cp_C => Sys2Proof.Machine.execCp_C s
  | .cp_D => Sys2Proof.Machine.execCp_D s
  | .cp_E => Sys2Proof.Machine.execCp_E s
  | .cp_H => Sys2Proof.Machine.execCp_H s
  | .cp_L => Sys2Proof.Machine.execCp_L s
  | .cp_atHL => Sys2Proof.Machine.execCp_atHL s
  | .cp_A => Sys2Proof.Machine.execCp_A s
  | .add_A_n n => Sys2Proof.Machine.execAdd_A_n n s
  | .adc_A_n n => Sys2Proof.Machine.execAdc_A_n n s
  | .sub_n n => Sys2Proof.Machine.execSub_n n s
  | .sbc_A_n n => Sys2Proof.Machine.execSbc_A_n n s
  | .and_n n => Sys2Proof.Machine.execAnd_n n s
  | .xor_n n => Sys2Proof.Machine.execXor_n n s
  | .or_n n => Sys2Proof.Machine.execOr_n n s
  | .cp_n n => Sys2Proof.Machine.execCp_n n s
  -- 16-bit arithmetic (43_alu16.md)
  | .inc_BC => Sys2Proof.Machine.execInc_BC s
  | .add_HL_BC => Sys2Proof.Machine.execAdd_HL_BC s
  | .dec_BC => Sys2Proof.Machine.execDec_BC s
  | .inc_DE => Sys2Proof.Machine.execInc_DE s
  | .add_HL_DE => Sys2Proof.Machine.execAdd_HL_DE s
  | .dec_DE => Sys2Proof.Machine.execDec_DE s
  | .inc_HL => Sys2Proof.Machine.execInc_HL s
  | .add_HL_HL => Sys2Proof.Machine.execAdd_HL_HL s
  | .dec_HL => Sys2Proof.Machine.execDec_HL s
  | .inc_SP => Sys2Proof.Machine.execInc_SP s
  | .add_HL_SP => Sys2Proof.Machine.execAdd_HL_SP s
  | .dec_SP => Sys2Proof.Machine.execDec_SP s
  | .add_SP_e eb => Sys2Proof.Machine.execAdd_SP_e eb s
  -- accumulator rotates (44_rotate_shift_bit.md section 1)
  | .rlca => Sys2Proof.Machine.execRlca s
  | .rrca => Sys2Proof.Machine.execRrca s
  | .rla => Sys2Proof.Machine.execRla s
  | .rra => Sys2Proof.Machine.execRra s
  -- the prefixed table (44_rotate_shift_bit.md section 2)
  | .rlc r => Sys2Proof.Machine.execRlc r s
  | .rrc r => Sys2Proof.Machine.execRrc r s
  | .rl r => Sys2Proof.Machine.execRl r s
  | .rr r => Sys2Proof.Machine.execRr r s
  | .sla r => Sys2Proof.Machine.execSla r s
  | .sra r => Sys2Proof.Machine.execSra r s
  | .swap r => Sys2Proof.Machine.execSwap r s
  | .srl r => Sys2Proof.Machine.execSrl r s
  | .bit_0 r => Sys2Proof.Machine.execBit_0 r s
  | .bit_1 r => Sys2Proof.Machine.execBit_1 r s
  | .bit_2 r => Sys2Proof.Machine.execBit_2 r s
  | .bit_3 r => Sys2Proof.Machine.execBit_3 r s
  | .bit_4 r => Sys2Proof.Machine.execBit_4 r s
  | .bit_5 r => Sys2Proof.Machine.execBit_5 r s
  | .bit_6 r => Sys2Proof.Machine.execBit_6 r s
  | .bit_7 r => Sys2Proof.Machine.execBit_7 r s
  | .res_0 r => Sys2Proof.Machine.execRes_0 r s
  | .res_1 r => Sys2Proof.Machine.execRes_1 r s
  | .res_2 r => Sys2Proof.Machine.execRes_2 r s
  | .res_3 r => Sys2Proof.Machine.execRes_3 r s
  | .res_4 r => Sys2Proof.Machine.execRes_4 r s
  | .res_5 r => Sys2Proof.Machine.execRes_5 r s
  | .res_6 r => Sys2Proof.Machine.execRes_6 r s
  | .res_7 r => Sys2Proof.Machine.execRes_7 r s
  | .set_0 r => Sys2Proof.Machine.execSet_0 r s
  | .set_1 r => Sys2Proof.Machine.execSet_1 r s
  | .set_2 r => Sys2Proof.Machine.execSet_2 r s
  | .set_3 r => Sys2Proof.Machine.execSet_3 r s
  | .set_4 r => Sys2Proof.Machine.execSet_4 r s
  | .set_5 r => Sys2Proof.Machine.execSet_5 r s
  | .set_6 r => Sys2Proof.Machine.execSet_6 r s
  | .set_7 r => Sys2Proof.Machine.execSet_7 r s
  -- control transfer (45_control_flow.md)
  | .jr_e eb => Sys2Proof.Machine.execJr_e eb s
  | .jr_NZ_e eb => Sys2Proof.Machine.execJr_NZ_e eb s
  | .jr_Z_e eb => Sys2Proof.Machine.execJr_Z_e eb s
  | .jr_NC_e eb => Sys2Proof.Machine.execJr_NC_e eb s
  | .jr_C_e eb => Sys2Proof.Machine.execJr_C_e eb s
  | .ret_NZ => Sys2Proof.Machine.execRet_NZ s
  | .jp_NZ_nn nn => Sys2Proof.Machine.execJp_NZ_nn nn s
  | .jp_nn nn => Sys2Proof.Machine.execJp_nn nn s
  | .call_NZ_nn nn => Sys2Proof.Machine.execCall_NZ_nn nn s
  | .rst_00H => Sys2Proof.Machine.execRst_00H s
  | .ret_Z => Sys2Proof.Machine.execRet_Z s
  | .ret => Sys2Proof.Machine.execRet s
  | .jp_Z_nn nn => Sys2Proof.Machine.execJp_Z_nn nn s
  | .call_Z_nn nn => Sys2Proof.Machine.execCall_Z_nn nn s
  | .call_nn nn => Sys2Proof.Machine.execCall_nn nn s
  | .rst_08H => Sys2Proof.Machine.execRst_08H s
  | .ret_NC => Sys2Proof.Machine.execRet_NC s
  | .jp_NC_nn nn => Sys2Proof.Machine.execJp_NC_nn nn s
  | .call_NC_nn nn => Sys2Proof.Machine.execCall_NC_nn nn s
  | .rst_10H => Sys2Proof.Machine.execRst_10H s
  | .ret_C => Sys2Proof.Machine.execRet_C s
  | .reti => Sys2Proof.Machine.execReti s
  | .jp_C_nn nn => Sys2Proof.Machine.execJp_C_nn nn s
  | .call_C_nn nn => Sys2Proof.Machine.execCall_C_nn nn s
  | .rst_18H => Sys2Proof.Machine.execRst_18H s
  | .rst_20H => Sys2Proof.Machine.execRst_20H s
  | .jp_HL => Sys2Proof.Machine.execJp_HL s
  | .rst_28H => Sys2Proof.Machine.execRst_28H s
  | .rst_30H => Sys2Proof.Machine.execRst_30H s
  | .rst_38H => Sys2Proof.Machine.execRst_38H s
  -- system instructions, the prefix byte, undefined opcodes (46_system.md)
  | .nop => Sys2Proof.Machine.execNop s
  | .stop => Sys2Proof.Machine.execStop s
  | .halt => Sys2Proof.Machine.execHalt s
  | .prefixCB op2 => Sys2Proof.Machine.execPrefixCB op2 s
  | .illegal op => Sys2Proof.Machine.execIllegal op s
  | .di => Sys2Proof.Machine.execDi s
  | .ei => Sys2Proof.Machine.execEi s

end Sys2Proof.Machine
end

