-- ==== Sys2Proof/Machine/CpuStep.lean ====
section
/-! DEFINITION. `CPU.Step` (60_exceptions.md R143). -/

namespace Sys2Proof.Machine

/-- Halt exit: a ripe interrupt ends HALT, whatever `IME` is (R145). -/
def haltExit (s : State) : State := if s.cpu.halted && s.ripe != 0 then s.setHalted false else s

/-- Fetch, decode and execute one instruction, with the cycles it costs (R143 step 4; 30_encoding.md R57). -/
def runInstruction (s : State) : Host.Outcome (State × Nat) Fault Refusal :=
  match fetch s with
  | .error r => .refused r
  | .ok (i, s1) =>
    match exec i s1 with
    | .next s2 => .next (s2, cycles i s1)
    | .fault f => .fault f
    | .refused r => .refused r

/-- Service the ripe interrupt of highest priority (R143 step 2, R146, R147). -/
def serviceInterrupt (s : State) : Host.Outcome (State × Nat) Fault Refusal :=
  match takeInterrupt s (lowestRipe s.ripe) with
  | .error r => .refused r
  | .ok s1 => .next (s1, irqDispatchCycles)

/-- `CPU.Step() -> cycles` (R143): the state after it, and the cycles. -/
def cpuStep (s : State) : Host.Outcome (State × Nat) Fault Refusal :=
  let s1 := haltExit s
  if s1.cpu.ime && s1.ripe != 0 then serviceInterrupt s1
  else if s1.cpu.halted then .next (s1, haltIdleCycles)
  else runInstruction s1

end Sys2Proof.Machine
end

