-- ==== Sys2Proof/Machine/PpuTick.lean ====
section
/-! DEFINITION. The PPU: the scanline renderer (61_ppu.md R170-R174) and the line and mode state machine (R164-R169, R176). -/

namespace Sys2Proof.Machine

/-- Cycles in a line (R162). -/
def lineCycles : Nat := 456

/-- `PPU_T_TRANSFER` (R162; 92_eei_decisions.md D26). -/
def transferThreshold : Nat := 80

/-- The first VBlank line (R162). -/
def vblankLine : Nat := 144

/-- The last line of a frame (R162). -/
def lastLine : Nat := 153

/-- Pixels in a line (R162). -/
def screenWidth : Nat := 160

/-! ### Reading video memory by block access (20_memory.md R29; 61_ppu.md R170) -/

/-- `VRAM[i]`. -/
def vramByte (s : State) (i : Nat) : Byte := s.peek (vramBase + i)

/-- `OAM[i]`. -/
def oamByte (s : State) (i : Nat) : Byte := s.peek (oamBase + i)

/-! ### Tiles, background, window (R171-R173) -/

/-- The two-bit index `(hi[b] << 1) | lo[b]` of one pixel of a tile row. -/
def planeBits (lo hi : Byte) (b : Nat) : Nat := 2 * (hi.getLsbD b).toNat + (lo.getLsbD b).toNat

/-- The offset in `VRAM` of the tile with index `t` for background and window: `taddr - 0x8000` (R173). -/
def tileOffset (lcdc : Byte) (t : Byte) : Nat :=
  if lcdc.getLsbD 4 then 16 * t.toNat
  else if t.toNat < 128 then 0x1000 + 16 * t.toNat
  else 0x0800 + 16 * (t.toNat - 128)

/-- `TilePixel(t, row, col)` (R173). -/
def tilePixel (s : State) (t : Byte) (row col : Nat) : Nat :=
  let base := tileOffset s.ppu.lcdc t + 2 * row
  planeBits (vramByte s base) (vramByte s (base + 1)) (7 - col)

/-- The pixel at map coordinates (`my`, `mx`) of the tile map whose offset in `VRAM` is `base` (R171, R172). -/
def mapPixel (s : State) (base my mx : Nat) : Nat :=
  tilePixel s (vramByte s (base + 32 * (my / 8) + mx / 8)) (my % 8) (mx % 8)

/-- The offset in `VRAM` of the tile map a select bit chooses: 0x9800 or 0x9C00 (R171, R172). -/
def mapBase (select : Bool) : Nat := if select then 0x1C00 else 0x1800

/-- Whether the window covers pixel `x` of line `ly` (R172). -/
def windowCovers (p : Ppu) (ly x : Nat) : Bool :=
  p.lcdc.getLsbD 0 && p.lcdc.getLsbD 5 && decide (p.wy.toNat ≤ ly) && decide (p.wx.toNat ≤ x + 7)

/-- `bgidx[x]` on line `ly` (R171, R172). -/
def bgIndex (s : State) (ly x : Nat) : Nat :=
  let p := s.ppu
  if !p.lcdc.getLsbD 0 then 0
  else if windowCovers p ly x then mapPixel s (mapBase (p.lcdc.getLsbD 6)) (ly - p.wy.toNat) (x + 7 - p.wx.toNat)
  else mapPixel s (mapBase (p.lcdc.getLsbD 3)) ((ly + p.scy.toNat) % 256) ((x + p.scx.toNat) % 256)

/-- `(palette >> (2*index)) & 3` (R171). -/
def paletteShade (palette : Byte) (index : Nat) : Shade := (palette >>> (2 * index)).setWidth 2

/-- The shade of the background or window at pixel `x` of line `ly`; with `LCDC[0] = 0` it is 0, not through `BGP` (R171). -/
def bgShade (s : State) (ly x : Nat) : Shade :=
  if s.ppu.lcdc.getLsbD 0 then paletteShade s.ppu.bgp (bgIndex s ly x) else 0

/-! ### Sprites (R174) -/

/-- The sprite height. -/
def spriteHeight (lcdc : Byte) : Nat := if lcdc.getLsbD 2 then 16 else 8

/-- The pixel that OAM entry `i` draws at `x` of line `ly`, if it draws one there. The rule's signed coordinates
`sy = OAM[4i] - 16` and `sx = OAM[4i+1] - 8` are compared by adding 16 and 8 on both sides (log 14). -/
def spritePixel (s : State) (ly x i : Nat) : Option Shade :=
  let lcdc := s.ppu.lcdc
  let h := spriteHeight lcdc
  let oy := (oamByte s (4 * i)).toNat
  let ox := (oamByte s (4 * i + 1)).toNat
  let tile := (oamByte s (4 * i + 2)).toNat
  let at_ := oamByte s (4 * i + 3)
  if oy ≤ ly + 16 ∧ ly + 16 < oy + h ∧ ox ≤ x + 8 ∧ x + 8 < ox + 8 then
    let line := ly + 16 - oy
    let px := x + 8 - ox
    let row := if at_.getLsbD 6 then h - 1 - line else line
    let t := if h = 16 then tile - tile % 2 else tile
    let lo := vramByte s (16 * t + 2 * row)
    let hi := vramByte s (16 * t + 2 * row + 1)
    let index := planeBits lo hi (if at_.getLsbD 5 then px else 7 - px)
    if index = 0 ∨ (at_.getLsbD 7 ∧ bgIndex s ly x ≠ 0) then none
    else some (paletteShade (if at_.getLsbD 4 then s.ppu.obp1 else s.ppu.obp0) index)
  else none

/-- The order in which the 40 entries are processed: a later one overwrites an earlier one (R174). -/
def spriteSequence (c : Config) : List Nat :=
  match c.spriteOrder with
  | .laterOamWins => List.range 40
  | .earlierOamWins => (List.range 40).reverse

/-- Draws an entry's pixel over what is there. -/
def overlay (s : State) (ly x : Nat) (under : Shade) (i : Nat) : Shade := (spritePixel s ly x i).getD under

/-- The shade of pixel `x` of line `ly`: background or window, then the sprites (R170-R174; log 14). -/
def pixelShade (s : State) (ly x : Nat) : Shade :=
  if s.ppu.lcdc.getLsbD 1 then (spriteSequence s.cfg).foldl (overlay s ly x) (bgShade s ly x) else bgShade s ly x

/-- `RenderLine(ly)`: the 160 pixels of `back[ly]` (R170). -/
def renderLine (s : State) (ly : Nat) : State :=
  { s with ppu := { s.ppu with back := s.ppu.back.set ly ((List.range screenWidth).map (pixelShade s ly)) } }

/-- The pixel at column `x` of row `y` of a frame. -/
def framePixel (f : Frame) (y x : Nat) : Shade := (f.getD y []).getD x 0

/-! ### The line and mode machine (R164, R165) -/

/-- The line after `ly`: the frame wraps after line 153 (R165, R168). -/
def nextLine (ly : Byte) : Byte := if ly.toNat + 1 > lastLine then 0 else ly + 1

/-- The part of `LineBoundary` after rendering: the new line, the coincidence flag, the LCD-STAT request of R166. -/
def advanceLine (s : State) : State :=
  let line := nextLine s.ppu.ly
  let hit := line == s.ppu.lyc
  let s' := { s with ppu := { s.ppu with ly := line, coincidence := hit } }
  if hit && s.ppu.statW.getLsbD 6 then s'.requestInterrupt 1 else s'

/-- Entry into VBlank: the VBlank request, the LCD-STAT request gated by `stat_w[4]`, and the publication of the frame, as a
copy (R167, R176). -/
def enterVBlank (s : State) : State :=
  let s1 := s.requestInterrupt 0
  let s2 := if s1.ppu.statW.getLsbD 4 then s1.requestInterrupt 1 else s1
  { s2 with ppu := { s2.ppu with front := s2.ppu.back } }

/-- `LineBoundary()` (R165). -/
def lineBoundary (s : State) : State :=
  let s1 := if s.ppu.ly.toNat < vblankLine then renderLine s s.ppu.ly.toNat else s
  let s2 := advanceLine s1
  let s3 := if s2.ppu.ly.toNat = vblankLine then enterVBlank s2 else s2
  { s3 with ppu := { s3.ppu with mode := if s3.ppu.ly.toNat ≥ vblankLine then .vblank else .hblank } }

/-- `k` line boundaries in one tick. -/
def lineBoundaries : Nat → State → State
  | 0, s => s
  | k + 1, s => lineBoundaries k (lineBoundary s)

/-- The mode inside a visible line (R164). -/
def modeInLine (s : State) : State :=
  if s.ppu.ly.toNat < vblankLine then
    { s with ppu := { s.ppu with mode := if s.ppu.acc ≥ transferThreshold then .dataTransfer else .oamSearch } }
  else s

/-- `PPU.Tick(n)`: one boundary for every 456 cycles accumulated, the remainder kept; where none was crossed, the mode of the
place in the line (R164; log 13). -/
def ppuTick (n : Nat) (s : State) : State :=
  let total := s.ppu.acc + n
  let s' := { s with ppu := { s.ppu with acc := total % lineCycles } }
  if total / lineCycles = 0 then modeInLine s' else lineBoundaries (total / lineCycles) s'

end Sys2Proof.Machine
end

