-- ==== Sys2Proof/Machine/TimerTick.lean ====
section
/-! DEFINITION. The Timer (60_exceptions.md R152, R153). -/

namespace Sys2Proof.Machine

/-- Cycles for one step of `DIV` (R153). -/
def divThreshold : Nat := 256

/-- Cycles for one step of `TIMA`: `[1024, 16, 64, 256][TAC[1:0]]` (R153). -/
def timaThreshold (tac : Byte) : Nat :=
  match tac.toNat % 4 with
  | 0 => 1024
  | 1 => 16
  | 2 => 64
  | _ => 256

/-- `TAC[2]`: the timer is enabled (10_state.md R18). -/
def timerEnabled (tac : Byte) : Bool := tac.getLsbD 2

/-- One crossing of the threshold: `TIMA` counts up; at 0xFF it is reloaded from `TMA` and the Timer interrupt is requested
(R153). -/
def bumpTima (s : State) : State :=
  if s.timer.tima = 0xFF then { s with timer := { s.timer with tima := s.timer.tma } }.requestInterrupt 2
  else { s with timer := { s.timer with tima := s.timer.tima + 1 } }

/-- `k` crossings in one tick: each is processed (R153). -/
def bumpTimaTimes : Nat → State → State
  | 0, s => s
  | k + 1, s => bumpTimaTimes k (bumpTima s)

/-- The `DIV` half of the tick: one step of `DIV` for every 256 cycles accumulated, the remainder kept (R153; log 13). -/
def tickDiv (n : Nat) (s : State) : State :=
  let total := s.timer.divSub + n
  { s with timer := { s.timer with
      div := BitVec.ofNat 8 (s.timer.div.toNat + total / divThreshold)
      divSub := total % divThreshold } }

/-- The `TIMA` half of the tick, while the timer is enabled (R153; log 13). -/
def tickTima (n : Nat) (s : State) : State :=
  if timerEnabled s.timer.tac then
    let total := s.timer.timaSub + n
    let threshold := timaThreshold s.timer.tac
    bumpTimaTimes (total / threshold) { s with timer := { s.timer with timaSub := total % threshold } }
  else s

/-- `Timer.Tick(n)` (R153). -/
def timerTick (n : Nat) (s : State) : State := tickTima n (tickDiv n s)

end Sys2Proof.Machine
end

