-- ==== Sys2Proof/Machine/Step.lean ====
section
/-! DEFINITION. One system step (00_scope.md R2), and the placing of an instruction where the next step fetches it. -/

namespace Sys2Proof.Machine

/-- One system step: the host events that arrive before it (00_scope.md R3; log 7), then `c <- CPU.Step()`, `Timer.Tick(c)`,
`PPU.Tick(c)` (00_scope.md R2). An undefined opcode ends the run (00_scope.md R5). -/
def step (s : State) : Host.Outcome State Fault Refusal :=
  match cpuStep (deliverInputs s) with
  | .next (s1, c) => .next (ppuTick c (timerTick c s1))
  | .fault f => .fault f
  | .refused r => .refused r

/-- The table word's bytes stored in the cells that a fetch at `PC` reads, and nothing in the way of the next fetch
(log 12). -/
def State.withFetchWord (s : State) (nbits w : Nat) : State :=
  readyToFetch (placeBytes s s.cpu.pc (tableBytes nbits w))

end Sys2Proof.Machine
end

