-- ==== Sys2Proof/Safety.lean ====
section
/-! DEFINITION. The terms claims are stated in: which accesses the spec gives a result, the machine's invariant, and small
predicates about operands, stored bytes and pixels. -/

namespace Sys2Proof.Machine

/-! ### Accesses the spec gives a result -/

/-- An address in an inclusive range. -/
abbrev inRange (first last : Nat) (a : Word) : Prop := first ≤ a.toNat ∧ a.toNat ≤ last

/-- A read of the upper ROM window beyond the image (20_memory.md R39; 93 U4). -/
abbrev romBeyond (s : State) (a : Word) : Prop := inRange 0x4000 0x7FFF a ∧ romBanks s.cfg ≤ upperBank s.mbc

/-- An access to enabled cartridge RAM beyond `RAM_SIZE` (20_memory.md R40; 93 U5). -/
abbrev cramBeyond (s : State) (a : Word) : Prop :=
  inRange 0xA000 0xBFFF a ∧ s.mbc.ramEnabled = true ∧ ramBytes s.cfg ≤ cramIndex s.mbc a

/-- The spec gives a read of `a` a result. -/
abbrev readable (s : State) (a : Word) : Prop := ¬ romBeyond s a ∧ ¬ cramBeyond s a

/-- The spec gives a write of `v` to `a` a result; a write to `DMA` reads its whole source block. -/
abbrev storable (s : State) (a : Word) (v : Byte) : Prop :=
  ¬ cramBeyond s a ∧ (a = 0xFF46 → ∀ i < dmaBytes s.cfg, readable s (BitVec.ofNat 16 (v.toNat * 0x100 + i)))

/-- The plain RAM ranges of the bus: `VRAM`, `WRAM`, its mirror, `OAM`, `HRAM` (20_memory.md R30, R31). -/
abbrev plainRam (a : Word) : Prop :=
  inRange 0x8000 0x9FFF a ∨ inRange 0xC000 0xFDFF a ∨ inRange 0xFE00 0xFE9F a ∨ inRange 0xFF80 0xFFFE a

/-- The address that shares the cell of `a`: the mirror of work RAM (20_memory.md R32). -/
def unmirror (a : Word) : Word := if inRange 0xE000 0xFDFF a then a - 0x2000 else a

/-- The addresses in no mapping (20_memory.md R42). -/
abbrev unmapped (a : Word) : Prop :=
  inRange 0xFEA0 0xFEFF a ∨ a = 0xFF03 ∨ inRange 0xFF08 0xFF0E a ∨ inRange 0xFF10 0xFF3F a ∨ inRange 0xFF4C 0xFF4F a ∨
    inRange 0xFF51 0xFF7F a

/-- Reads of consecutive addresses from `a` on give these bytes. -/
def busHolds (s : State) (a : Word) : List Byte → Prop
  | [] => True
  | b :: bs => busGet s a = .ok b ∧ busHolds s (a + 1) bs

/-! ### The invariant -/

/-- The key is a cell of one of the storage arrays (10_state.md R16). -/
def isStorage (c : Config) (k : Nat) : Bool :=
  (decide (0x8000 ≤ k) && decide (k ≤ 0x9FFF)) || (decide (0xC000 ≤ k) && decide (k ≤ 0xDFFF)) ||
  (decide (0xFE00 ≤ k) && decide (k ≤ 0xFE9F)) || (decide (0xFF80 ≤ k) && decide (k ≤ 0xFFFE)) ||
  (decide (cramBase ≤ k) && decide (k < cramBase + ramBytes c)) || (decide (bootBase ≤ k) && decide (k < bootBase + 0x100)) ||
  (decide (romBase ≤ k) && decide (k < romBase + romBanks c * 0x4000))

/-- A frame is 144 rows of 160 pixels (61_ppu.md R161). -/
abbrev frameWf (f : Frame) : Prop := f.length = 144 ∧ ∀ r ∈ f, r.length = 160

/-- What every reachable state of the machine satisfies. -/
structure State.Inv (s : State) : Prop where
  /-- `F[3:0] = 0` (10_state.md R8). -/
  flagNibble : s.cpu.f &&& 0x0F = 0
  /-- Memory is in its canonical form. -/
  memoryForm : Memory.wf s.mem = true
  /-- Only cells of the storage arrays are listed (10_state.md R16). -/
  memoryKeys : ∀ p ∈ s.mem, isStorage s.cfg p.1 = true
  /-- `LY` is in 0..153 (61_ppu.md R161). -/
  line       : s.ppu.ly.toNat ≤ 153
  /-- `ppu_acc` is in 0..455 between ticks (10_state.md R21). -/
  accumulator : s.ppu.acc < 456
  /-- The mode is VBlank on lines 144..153 and on no other (61_ppu.md R164, R165). -/
  vblankMode : s.ppu.mode = .vblank ↔ 144 ≤ s.ppu.ly.toNat
  /-- In DataTransfer the accumulator has reached the threshold (61_ppu.md R164). -/
  transferMode : s.ppu.mode = .dataTransfer → 80 ≤ s.ppu.acc
  /-- In OAMSearch it has not (61_ppu.md R164). -/
  searchMode : s.ppu.mode = .oamSearch → s.ppu.acc < 80
  /-- `div_sub` is in 0..255 between ticks (10_state.md R21). -/
  divSub     : s.timer.divSub < 256
  /-- `tima_sub` is below the selected threshold between ticks while the timer is enabled (10_state.md R21). -/
  timaSub    : timerEnabled s.timer.tac = true → s.timer.timaSub < timaThreshold s.timer.tac
  /-- In RAM banking mode `rom_bank_hi` is 0 (20_memory.md R38). -/
  ramMode    : s.mbc.mode = .ramBanking → s.mbc.romBankHi = 0
  /-- In ROM banking mode `ram_bank` is 0 (20_memory.md R38). -/
  romMode    : s.mbc.mode = .romBanking → s.mbc.ramBank = 0
  /-- `back` is 160 x 144. -/
  backForm   : frameWf s.ppu.back
  /-- `front` is 160 x 144. -/
  frontForm  : frameWf s.ppu.front

/-! ### Operands, encodings, stored bytes -/

/-- `v` is what a read of `reg8[i]` gives: the register, or the memory byte at `HL` through the Bus (10_state.md R9). -/
def Holds8 (s : State) (r : R8) (v : Byte) : Prop :=
  match r with
  | .B => s.cpu.b = v
  | .C => s.cpu.c = v
  | .D => s.cpu.d = v
  | .E => s.cpu.e = v
  | .H => s.cpu.h = v
  | .L => s.cpu.l = v
  | .atHL => busGet s (s.cpu.h ++ s.cpu.l) = .ok v
  | .A => s.cpu.a = v

/-- `t` is `s` after `reg8[i] <- v`: the register replaced, or a Bus write at `HL` (10_state.md R9). -/
def Written8 (s : State) (r : R8) (v : Byte) (t : State) : Prop :=
  match r with
  | .B => t = { s with cpu := { s.cpu with b := v } }
  | .C => t = { s with cpu := { s.cpu with c := v } }
  | .D => t = { s with cpu := { s.cpu with d := v } }
  | .E => t = { s with cpu := { s.cpu with e := v } }
  | .H => t = { s with cpu := { s.cpu with h := v } }
  | .L => t = { s with cpu := { s.cpu with l := v } }
  | .atHL => busSet s (s.cpu.h ++ s.cpu.l) v = .ok t
  | .A => t = { s with cpu := { s.cpu with a := v } }

/-- The value of a pair of `reg16` (10_state.md R7, R10). -/
def pairValue (s : State) : R16 → Word
  | .BC => s.cpu.b ++ s.cpu.c
  | .DE => s.cpu.d ++ s.cpu.e
  | .HL => s.cpu.h ++ s.cpu.l
  | .SP => s.cpu.sp

/-- `s` with `hi:lo` written to a pair of `reg16` (10_state.md R7, R10). -/
def withPair (s : State) (hi lo : Byte) : R16 → State
  | .BC => { s with cpu := { s.cpu with b := hi, c := lo } }
  | .DE => { s with cpu := { s.cpu with d := hi, e := lo } }
  | .HL => { s with cpu := { s.cpu with h := hi, l := lo } }
  | .SP => { s with cpu := { s.cpu with sp := hi ++ lo } }

/-- The value of a pair of `reg16s` (10_state.md R7, R10). -/
def stackPairValue (s : State) : R16S → Word
  | .BC => s.cpu.b ++ s.cpu.c
  | .DE => s.cpu.d ++ s.cpu.e
  | .HL => s.cpu.h ++ s.cpu.l
  | .AF => s.cpu.a ++ s.cpu.f

/-- `s` with `hi:lo` written to a pair of `reg16s`, the low nibble of `F` dropped (10_state.md R7, R8, R10). -/
def withStackPair (s : State) (hi lo : Byte) : R16S → State
  | .BC => { s with cpu := { s.cpu with b := hi, c := lo } }
  | .DE => { s with cpu := { s.cpu with d := hi, e := lo } }
  | .HL => { s with cpu := { s.cpu with h := hi, l := lo } }
  | .AF => { s with cpu := { s.cpu with a := hi, f := lo &&& 0xF0 } }

/-- `v` is the right operand of the accumulator operation `op` in `i` at `s`, in one of the three forms (42_alu8.md R85). -/
def AluOperand (i : Instr) (op : AluOp) (s : State) (v : Byte) : Prop :=
  (∃ src, i.form = .alu op src ∧ Holds8 s src v) ∨ i.form = .aluN op v

/-- The bytes of an accumulator operation `alu[y]` in the form it has (42_alu8.md R85). -/
def aluBytes (y : Nat) : Form → List Byte
  | .alu _ src => [BitVec.ofNat 8 (0x80 + 8 * y + src.index)]
  | .aluN _ n => [BitVec.ofNat 8 (0xC6 + 8 * y), n]
  | _ => []

/-- The cycles of an accumulator operation in the form it has (42_alu8.md R85). -/
def aluCycles : Form → Nat
  | .alu _ .atHL => 8
  | .alu _ _ => 4
  | _ => 8

/-- The condition `cc[i]` on the flag register (45_control_flow.md R120). -/
def ConditionMet (cc : Cond) (f : Byte) : Prop :=
  match cc with
  | .NZ => f.getLsbD 7 = false
  | .Z => f.getLsbD 7 = true
  | .NC => f.getLsbD 4 = false
  | .C => f.getLsbD 4 = true

/-- The index of a condition in `cc` (30_encoding.md R51). -/
def condIndex : Cond → Nat
  | .NZ => 0 | .Z => 1 | .NC => 2 | .C => 3

/-- The index of a pair in `reg16` (10_state.md R10). -/
def pairIndex : R16 → Nat
  | .BC => 0 | .DE => 1 | .HL => 2 | .SP => 3

/-- The index of a pair in `reg16s` (10_state.md R10). -/
def stackPairIndex : R16S → Nat
  | .BC => 0 | .DE => 1 | .HL => 2 | .AF => 3

/-- The storage key that a bus write of `a` stores to, where it stores to one (20_memory.md R31, R32, R40). -/
def storeKey (s : State) (a : Word) : Option Nat :=
  match selectMapping s a with
  | none => none
  | some m =>
    match m.region with
    | .vram | .wram | .oam | .hram => (regionBlock m.region).map fun base => base + (a.toNat - m.first)
    | .mbc1 => if mbcWindow a = 5 ∧ s.mbc.ramEnabled = true then some (cramBase + cramIndex s.mbc a) else none
    | .bootRom | .joypad | .serial | .timer | .irqFlags | .ppu | .bootSwitch | .irqEnable => none

/-- The address of an operand of `reg8` where it is the memory byte at `HL` (10_state.md R9). -/
def memoryAt (s : State) (r : R8) : List Word := if r = .atHL then [s.hl] else []

/-- The two addresses a push writes, low byte first (41_load16_stack.md R81). -/
def stackPair (s : State) : List Word := [s.cpu.sp - 2, s.cpu.sp - 1]

/-- The addresses an instruction of this form writes through the Bus, computed as its meaning computes them. -/
def storesAt (x : Form) (s : State) : List Word :=
  match x with
  | .ld8 d _ => memoryAt s d
  | .ld8n d _ => memoryAt s d
  | .inc8 r | .dec8 r | .rot _ r | .res _ r | .set _ r => memoryAt s r
  | .prefixed op2 => if op2.toNat / 64 = 1 then [] else memoryAt s (R8.ofIndex (op2.toNat % 8))
  | .ldIndA rr => [readR16 s rr]
  | .ldAbsA nn => [nn]
  | .ldhnA n => [highPage n]
  | .ldhCA => [highPage s.cpu.c]
  | .ldHLincA | .ldHLdecA => [s.hl]
  | .ldAbsSP nn => [nn, nn + 1]
  | .push _ | .call _ | .rst _ => stackPair s
  | .callCond cc _ => if condHolds cc s.cpu.f then stackPair s else []
  | .ldAInd _ | .ldAAbs _ | .ldhAn _ | .ldhAC | .ldAHLinc | .ldAHLdec | .ld16 _ _ | .ldSPHL | .ldHLSPe _ | .pop _ => []
  | .alu _ _ | .aluN _ _ | .daa | .cpl | .scf | .ccf | .addHL _ | .inc16 _ | .dec16 _ | .addSPe _ => []
  | .rlca | .rrca | .rla | .rra | .bit _ _ | .jp _ | .jpCond _ _ | .jpHL | .jr _ | .jrCond _ _ => []
  | .ret | .retCond _ | .reti | .nop | .halt | .stop | .di | .ei | .illegal _ => []

/-! ### The renderer, in the rule's own coordinates -/

/-- `TilePixel(t, row, col)` as 61_ppu.md R173 writes it, over bus addresses. -/
def tilePixelAt (s : State) (t : Byte) (row col : Nat) : Nat :=
  let taddr := if s.ppu.lcdc.getLsbD 4 then 0x8000 + 16 * t.toNat
    else if t.toNat < 128 then 0x9000 + 16 * t.toNat else 0x8800 + 16 * (t.toNat - 128)
  let lo := s.peek (taddr + 2 * row)
  let hi := s.peek (taddr + 2 * row + 1)
  (if hi.getLsbD (7 - col) then 2 else 0) + (if lo.getLsbD (7 - col) then 1 else 0)

/-- Entry `i` of `OAM` draws shade `c` at column `x` of line `ly`, as 61_ppu.md R174 writes it, in signed coordinates; `bg` is the
background index there. -/
def SpriteDraws (s : State) (ly x : Nat) (bg : Nat) (i : Nat) (c : Shade) : Prop :=
  let h : Int := if s.ppu.lcdc.getLsbD 2 then 16 else 8
  let sy : Int := (s.peek (0xFE00 + 4 * i)).toNat - 16
  let sx : Int := (s.peek (0xFE00 + 4 * i + 1)).toNat - 8
  let att := s.peek (0xFE00 + 4 * i + 3)
  let t : Nat := if s.ppu.lcdc.getLsbD 2 then (s.peek (0xFE00 + 4 * i + 2) &&& 0xFE).toNat else (s.peek (0xFE00 + 4 * i + 2)).toNat
  sy ≤ ly ∧ (ly : Int) < sy + h ∧
  ∃ px : Nat, px < 8 ∧ (x : Int) = sx + px ∧
    let row : Int := if att.getLsbD 6 then h - 1 - (ly - sy) else ly - sy
    let lo := s.peek (0x8000 + 16 * t + 2 * row.toNat)
    let hi := s.peek (0x8000 + 16 * t + 2 * row.toNat + 1)
    let b := if att.getLsbD 5 then px else 7 - px
    let idx := (if hi.getLsbD b then 2 else 0) + (if lo.getLsbD b then 1 else 0)
    idx ≠ 0 ∧ ¬ (att.getLsbD 7 = true ∧ bg ≠ 0) ∧
    c = ((if att.getLsbD 4 then s.ppu.obp1 else s.ppu.obp0) >>> (2 * idx)).setWidth 2

/-- One crossing of the `TIMA` threshold, as 60_exceptions.md R153 writes it: the counter and whether an interrupt has been
requested. -/
def timaCrossing (tma : Byte) (x : Byte × Bool) : Byte × Bool :=
  if x.1 = 0xFF then (tma, true) else (x.1 + 1, x.2)

end Sys2Proof.Machine
end

