-- ==== Sys2Proof/Certificates/Slice0/Obligations.lean ====
section
/-! DEFINITION. The statements about the model. In all of them `s` is any state, and in the statements about `exec` its `PC` already
points past the instruction (10_state.md R12). A next state written as a record update of `s` is the statement's frame:
every field not named in it is unchanged. -/

open Sys2Proof Sys2Proof.Machine

/-! ### Encoding -/

/-- 30_encoding.md R48, R52, R53: decoding the encoding of a well-formed instruction gives it back, whatever bytes follow it. -/
def Obligations.DecodeOfEncodeIsTheInstruction : Prop :=
  ∀ (i : Instr) (rest : List Byte), i.wf = true → decode (encode i ++ rest) = .ok (i, rest)

/-- 30_encoding.md R48, R52, R53: what the decoder reads is well formed and its encoding is the bytes it was read from. -/
def Obligations.EncodeOfDecodeIsTheBytes : Prop :=
  ∀ (bytes rest : List Byte) (i : Instr), decode bytes = .ok (i, rest) → i.wf = true ∧ bytes = encode i ++ rest

/-- 30_encoding.md R50-R52: the unprefixed map, read by the fields x, y, z, p, q of the first byte, as R52 tabulates it. -/
def Obligations.UnprefixedMapFollowsTheFields : Prop :=
  ∀ (op b1 b2 : Byte),
    let x := op.toNat / 64
    let y := op.toNat / 8 % 8
    let z := op.toNat % 8
    let p := op.toNat / 16 % 4
    let q := op.toNat / 8 % 2
    let nn := wordOf b2 b1
    let form : Form :=
      match x, z with
      | 0, 0 => if y = 0 then .nop else if y = 1 then .ldAbsSP nn else if y = 2 then .stop else if y = 3 then .jr b1
          else .jrCond (Cond.ofIndex (y - 4)) b1
      | 0, 1 => if q = 0 then .ld16 (R16.ofIndex p) nn else .addHL (R16.ofIndex p)
      | 0, 2 =>
          if q = 0 then (if p = 0 then .ldIndA .BC else if p = 1 then .ldIndA .DE else if p = 2 then .ldHLincA else .ldHLdecA)
          else (if p = 0 then .ldAInd .BC else if p = 1 then .ldAInd .DE else if p = 2 then .ldAHLinc else .ldAHLdec)
      | 0, 3 => if q = 0 then .inc16 (R16.ofIndex p) else .dec16 (R16.ofIndex p)
      | 0, 4 => .inc8 (R8.ofIndex y)
      | 0, 5 => .dec8 (R8.ofIndex y)
      | 0, 6 => .ld8n (R8.ofIndex y) b1
      | 0, _ => if y = 0 then .rlca else if y = 1 then .rrca else if y = 2 then .rla else if y = 3 then .rra else if y = 4 then .daa
          else if y = 5 then .cpl else if y = 6 then .scf else .ccf
      | 1, _ => if y = 6 ∧ z = 6 then .halt else .ld8 (R8.ofIndex y) (R8.ofIndex z)
      | 2, _ => .alu (AluOp.ofIndex y) (R8.ofIndex z)
      | _, 0 => if y < 4 then .retCond (Cond.ofIndex y) else if y = 4 then .ldhnA b1 else if y = 5 then .addSPe b1
          else if y = 6 then .ldhAn b1 else .ldHLSPe b1
      | _, 1 => if q = 0 then .pop (R16S.ofIndex p) else if p = 0 then .ret else if p = 1 then .reti else if p = 2 then .jpHL else .ldSPHL
      | _, 2 => if y < 4 then .jpCond (Cond.ofIndex y) nn else if y = 4 then .ldhCA else if y = 5 then .ldAbsA nn
          else if y = 6 then .ldhAC else .ldAAbs nn
      | _, 3 => if y = 0 then .jp nn else if y = 6 then .di else if y = 7 then .ei else .illegal op
      | _, 4 => if y < 4 then .callCond (Cond.ofIndex y) nn else .illegal op
      | _, 5 => if q = 0 then .push (R16S.ofIndex p) else if p = 0 then .call nn else .illegal op
      | _, 6 => .aluN (AluOp.ofIndex y) b1
      | _, _ => .rst (Fin.ofNat 8 y)
    op ≠ 0xCB → ∃ i rest, decode [op, b1, b2] = .ok (i, rest) ∧ i.form = form

/-- 30_encoding.md R53: the prefixed map, read by the fields of the second byte; every value is defined. -/
def Obligations.PrefixedMapFollowsTheFields : Prop :=
  ∀ (op2 : Byte) (rest : List Byte),
    let x := op2.toNat / 64
    let y := op2.toNat / 8 % 8
    let r := R8.ofIndex (op2.toNat % 8)
    ∃ i, decode (0xCB :: op2 :: rest) = .ok (i, rest) ∧
      i.form = (if x = 0 then .rot (RotOp.ofIndex y) r else if x = 1 then .bit (Fin.ofNat 8 y) r
        else if x = 2 then .res (Fin.ofNat 8 y) r else .set (Fin.ofNat 8 y) r)

/-- 40_load8.md to 46_system.md: words written out from the encoding lines of the rules, one or more of each family. -/
def Obligations.WordsFromTheRulesDecode : Prop :=
  decode [0x41] = .ok (.ld_B_C, []) ∧ decode [0x36, 0x99] = .ok (.ld_atHL_n 0x99, []) ∧
  decode [0xEA, 0x00, 0x20] = .ok (.ld_atnn_A 0x2000, []) ∧ decode [0x31, 0xFE, 0xFF] = .ok (.ld_SP_nn 0xFFFE, []) ∧
  decode [0xF5] = .ok (.push_AF, []) ∧ decode [0x9C] = .ok (.sbc_A_H, []) ∧ decode [0xFE, 0x40] = .ok (.cp_n 0x40, []) ∧
  decode [0x39] = .ok (.add_HL_SP, []) ∧ decode [0x1F] = .ok (.rra, []) ∧ decode [0xCB, 0x37] = .ok (.swap .A, []) ∧
  decode [0xCB, 0x8E] = .ok (.res_1 .atHL, []) ∧ decode [0x20, 0xFC] = .ok (.jr_NZ_e 0xFC, []) ∧
  decode [0xDC, 0x34, 0x12] = .ok (.call_C_nn 0x1234, []) ∧ decode [0xEF] = .ok (.rst_28H, []) ∧
  decode [0x10, 0x00] = .ok (.stop, [0x00]) ∧ decode [0xD3] = .ok (.illegal 0xD3, [])

/-! ### The step -/

/-- 60_exceptions.md R143 step 4, 00_scope.md R2: where no interrupt is serviced and the CPU is not idling, and the bytes at `PC` are
those of an instruction, one system step executes it with `PC` past it and ticks the Timer and then the PPU by its cycles.
`d` is the state after the host's events; halt exit (R145) has been applied in `s0`. -/
def Obligations.StepRunsTheDecodedInstruction : Prop :=
  ∀ (s : State) (i : Instr) (bytes : List Byte),
    let d := deliverInputs s
    let s0 := (if d.cpu.halted = true ∧ d.ripe ≠ 0 then { d with cpu := { d.cpu with halted := false } } else d)
    (s0.cpu.ime = false ∨ s0.ripe = 0) → s0.cpu.halted = false →
    busHolds s0 s0.cpu.pc bytes → decode bytes = .ok (i, []) →
    let s1 := { s0 with cpu := { s0.cpu with pc := s0.cpu.pc + BitVec.ofNat 16 bytes.length } }
    step s =
      match exec i s1 with
      | .next t => .next (ppuTick (cycles i s1) (timerTick (cycles i s1) t))
      | .fault f => .fault f
      | .refused r => .refused r

/-- 60_exceptions.md R143, R144, R146, R147: with `IME = 1` and some enabled pending interrupt, one step services the one with
the least bit number: its `IF` bit and `IME` are cleared, `halted` is cleared, `PC` is pushed, `PC` is 0x0040 + 8*k, and the ticks
are of 20 cycles; no instruction is fetched. -/
def Obligations.InterruptDispatchStep : Prop :=
  ∀ (s t : State) (k : Nat),
    let d := deliverInputs s
    d.cpu.ime = true → k < 5 → (d.irq.enable &&& d.irq.flags).getLsbD k = true →
    (∀ j < k, (d.irq.enable &&& d.irq.flags).getLsbD j = false) →
    busSet16 { d with
        irq := { d.irq with flags := d.irq.flags &&& ~~~((1 : Byte) <<< k) }
        cpu := { d.cpu with ime := false, halted := false, sp := d.cpu.sp - 2 } } (d.cpu.sp - 2) d.cpu.pc = .ok t →
    step s = .next (ppuTick 20 (timerTick 20 { t with cpu := { t.cpu with pc := BitVec.ofNat 16 (0x0040 + 8 * k) } }))

/-- 60_exceptions.md R143 step 3, 46_system.md R133: halted with nothing ripe, a step fetches nothing, leaves the CPU as it is and ticks
the devices by 4 cycles. -/
def Obligations.HaltedStepIdles : Prop :=
  ∀ (s : State),
    let d := deliverInputs s
    d.cpu.halted = true → d.irq.enable &&& d.irq.flags &&& 0x1F = 0 → step s = .next (ppuTick 4 (timerTick 4 d))

/-- 46_system.md R138, 60_exceptions.md R139, R143: an undefined opcode value fetched at `PC` ends the run with the opcode, its
address and the terminal state: the state before the step with `PC` advanced by one and nothing else changed, but for
the halt exit (R145) where the same step woke the CPU. That the halt exit shows in the terminal state is the model's
reading of R143's order (log 16). `d` is the state after the host's events. -/
def Obligations.UndefinedOpcodeEndsTheRun : Prop :=
  ∀ (s : State) (op : Byte),
    (op ∈ [0xD3, 0xDB, 0xDD, 0xE3, 0xE4, 0xEB, 0xEC, 0xED, 0xF4, 0xFC, 0xFD] →
      exec (.illegal op) s = .fault (.undefinedOpcode op (s.cpu.pc - 1) s)) ∧
    (let d := deliverInputs s
      let ripe := d.irq.enable &&& d.irq.flags &&& 0x1F
      op ∈ [0xD3, 0xDB, 0xDD, 0xE3, 0xE4, 0xEB, 0xEC, 0xED, 0xF4, 0xFC, 0xFD] → busGet d d.cpu.pc = .ok op →
      (d.cpu.ime = false ∨ ripe = 0) →
      (d.cpu.halted = false →
        step s = .fault (.undefinedOpcode op d.cpu.pc { d with cpu := { d.cpu with pc := d.cpu.pc + 1 } })) ∧
      (d.cpu.halted = true → ripe ≠ 0 →
        step s = .fault (.undefinedOpcode op d.cpu.pc { d with cpu := { d.cpu with pc := d.cpu.pc + 1, halted := false } })))

/-- 60_exceptions.md R139: a step faults only by an undefined opcode, one of the eleven, read at `PC`, and the terminal state differs
from the state before the step in `PC` and, by a halt exit, in `halted` only (46_system.md R138; log 16); and a step is refused only by one of the two
accesses the spec tells a model to refuse (20_memory.md R39, R40; log 5). -/
def Obligations.OnlyUndefinedOpcodesFault : Prop :=
  (∀ (s : State) (f : Fault), step s = .fault f →
    let d := deliverInputs s
    ∃ op, f = .undefinedOpcode op d.cpu.pc { d with cpu := { d.cpu with pc := d.cpu.pc + 1, halted := false } } ∧
      op ∈ [0xD3, 0xDB, 0xDD, 0xE3, 0xE4, 0xEB, 0xEC, 0xED, 0xF4, 0xFC, 0xFD] ∧ busGet d d.cpu.pc = .ok op) ∧
  (∀ (s : State) (r : Refusal), step s = .refused r → (∃ b, r = .romBankBeyondImage b) ∨ (∃ n, r = .cartRamBeyondSize n))

/-! ### Registers -/

/-- 10_state.md R7-R10: the flag byte's layout, the 8-bit operand table and the two pair tables, each read and written. -/
def Obligations.RegisterTablesAndFlagLayout : Prop :=
  (∀ z n h c : Bool,
    (packFlags z n h c).getLsbD 7 = z ∧ (packFlags z n h c).getLsbD 6 = n ∧ (packFlags z n h c).getLsbD 5 = h ∧
    (packFlags z n h c).getLsbD 4 = c ∧ packFlags z n h c &&& 0x0F = 0) ∧
  (∀ (s : State) (v : Byte),
    readR8 s .B = .ok s.cpu.b ∧ readR8 s .C = .ok s.cpu.c ∧ readR8 s .D = .ok s.cpu.d ∧ readR8 s .E = .ok s.cpu.e ∧
    readR8 s .H = .ok s.cpu.h ∧ readR8 s .L = .ok s.cpu.l ∧ readR8 s .A = .ok s.cpu.a ∧
    readR8 s .atHL = busGet s (s.cpu.h ++ s.cpu.l) ∧
    writeR8 s .B v = .ok { s with cpu := { s.cpu with b := v } } ∧ writeR8 s .C v = .ok { s with cpu := { s.cpu with c := v } } ∧
    writeR8 s .D v = .ok { s with cpu := { s.cpu with d := v } } ∧ writeR8 s .E v = .ok { s with cpu := { s.cpu with e := v } } ∧
    writeR8 s .H v = .ok { s with cpu := { s.cpu with h := v } } ∧ writeR8 s .L v = .ok { s with cpu := { s.cpu with l := v } } ∧
    writeR8 s .A v = .ok { s with cpu := { s.cpu with a := v } } ∧
    writeR8 s .atHL v = busSet s (s.cpu.h ++ s.cpu.l) v) ∧
  (∀ (s : State) (x y : Byte),
    readR16 s .BC = s.cpu.b ++ s.cpu.c ∧ readR16 s .DE = s.cpu.d ++ s.cpu.e ∧ readR16 s .HL = s.cpu.h ++ s.cpu.l ∧
    readR16 s .SP = s.cpu.sp ∧ readR16S s .BC = s.cpu.b ++ s.cpu.c ∧ readR16S s .DE = s.cpu.d ++ s.cpu.e ∧
    readR16S s .HL = s.cpu.h ++ s.cpu.l ∧ readR16S s .AF = s.cpu.a ++ s.cpu.f ∧
    writeR16 s .BC (x ++ y) = { s with cpu := { s.cpu with b := x, c := y } } ∧
    writeR16 s .DE (x ++ y) = { s with cpu := { s.cpu with d := x, e := y } } ∧
    writeR16 s .HL (x ++ y) = { s with cpu := { s.cpu with h := x, l := y } } ∧
    writeR16 s .SP (x ++ y) = { s with cpu := { s.cpu with sp := x ++ y } } ∧
    writeR16S s .BC (x ++ y) = { s with cpu := { s.cpu with b := x, c := y } } ∧
    writeR16S s .DE (x ++ y) = { s with cpu := { s.cpu with d := x, e := y } } ∧
    writeR16S s .HL (x ++ y) = { s with cpu := { s.cpu with h := x, l := y } } ∧
    writeR16S s .AF (x ++ y) = { s with cpu := { s.cpu with a := x, f := y &&& 0xF0 } })

/-! ### 8-bit loads and stores -/

/-- 40_load8.md R58-R62: `LD` between slots of `reg8`, and `LD reg8[y],n`: the encoding, the cycles and the state after; slot 6 is
the memory byte at `HL`. -/
def Obligations.LoadBetweenSlotsResult : Prop :=
  ∀ (s t : State) (i : Instr) (d src : R8) (v : Byte),
    (i.form = .ld8 d src → Holds8 s src v → Written8 s d v t →
      exec i s = .next t ∧ encode i = [BitVec.ofNat 8 (0x40 + 8 * d.index + src.index)] ∧
      cycles i s = (if d = .atHL ∨ src = .atHL then 8 else 4)) ∧
    (i.form = .ld8n d v → Written8 s d v t →
      exec i s = .next t ∧ encode i = [BitVec.ofNat 8 (0x06 + 8 * d.index), v] ∧ cycles i s = (if d = .atHL then 12 else 8))

/-- 40_load8.md R63, R64, R67, R69, R71: the loads of `A` from an address; only `A` changes. -/
def Obligations.LoadAccumulatorResult : Prop :=
  ∀ (s : State) (v n : Byte) (nn : Word),
    let loaded : Host.Outcome State Fault Refusal := .next { s with cpu := { s.cpu with a := v } }
    (busGet s (s.cpu.b ++ s.cpu.c) = .ok v →
      exec .ld_A_atBC s = loaded ∧ encode .ld_A_atBC = [0x0A] ∧ cycles .ld_A_atBC s = 8) ∧
    (busGet s (s.cpu.d ++ s.cpu.e) = .ok v →
      exec .ld_A_atDE s = loaded ∧ encode .ld_A_atDE = [0x1A] ∧ cycles .ld_A_atDE s = 8) ∧
    (busGet s nn = .ok v →
      exec (.ld_A_atnn nn) s = loaded ∧ encode (.ld_A_atnn nn) = [0xFA, nn.setWidth 8, (nn >>> 8).setWidth 8] ∧
      cycles (.ld_A_atnn nn) s = 16) ∧
    (busGet s (0xFF00 + n.setWidth 16) = .ok v →
      exec (.ldh_A_atn n) s = loaded ∧ encode (.ldh_A_atn n) = [0xF0, n] ∧ cycles (.ldh_A_atn n) s = 12) ∧
    (busGet s (0xFF00 + s.cpu.c.setWidth 16) = .ok v →
      exec .ldh_A_atC s = loaded ∧ encode .ldh_A_atC = [0xF2] ∧ cycles .ldh_A_atC s = 8)

/-- 40_load8.md R65, R66, R68, R70, R72: the stores of `A` at an address; what the bus write does is all that happens. -/
def Obligations.StoreAccumulatorResult : Prop :=
  ∀ (s t : State) (n : Byte) (nn : Word),
    (busSet s (s.cpu.b ++ s.cpu.c) s.cpu.a = .ok t →
      exec .ld_atBC_A s = .next t ∧ encode .ld_atBC_A = [0x02] ∧ cycles .ld_atBC_A s = 8) ∧
    (busSet s (s.cpu.d ++ s.cpu.e) s.cpu.a = .ok t →
      exec .ld_atDE_A s = .next t ∧ encode .ld_atDE_A = [0x12] ∧ cycles .ld_atDE_A s = 8) ∧
    (busSet s nn s.cpu.a = .ok t →
      exec (.ld_atnn_A nn) s = .next t ∧ encode (.ld_atnn_A nn) = [0xEA, nn.setWidth 8, (nn >>> 8).setWidth 8] ∧
      cycles (.ld_atnn_A nn) s = 16) ∧
    (busSet s (0xFF00 + n.setWidth 16) s.cpu.a = .ok t →
      exec (.ldh_atn_A n) s = .next t ∧ encode (.ldh_atn_A n) = [0xE0, n] ∧ cycles (.ldh_atn_A n) s = 12) ∧
    (busSet s (0xFF00 + s.cpu.c.setWidth 16) s.cpu.a = .ok t →
      exec .ldh_atC_A s = .next t ∧ encode .ldh_atC_A = [0xE2] ∧ cycles .ldh_atC_A s = 8)

/-- 40_load8.md R73-R76: the loads and stores that step `HL`; the address is the old `HL`, which then moves by one, mod 65536. -/
def Obligations.LoadStoreAndStepHLResult : Prop :=
  ∀ (s t : State) (v : Byte),
    let hl : Word := s.cpu.h ++ s.cpu.l
    (busSet s hl s.cpu.a = .ok t →
      exec .ld_atHLinc_A s = .next { t with cpu := { t.cpu with h := ((hl + 1) >>> 8).setWidth 8, l := (hl + 1).setWidth 8 } } ∧
      exec .ld_atHLdec_A s = .next { t with cpu := { t.cpu with h := ((hl - 1) >>> 8).setWidth 8, l := (hl - 1).setWidth 8 } }) ∧
    (busGet s hl = .ok v →
      exec .ld_A_atHLinc s =
        .next { s with cpu := { s.cpu with a := v, h := ((hl + 1) >>> 8).setWidth 8, l := (hl + 1).setWidth 8 } } ∧
      exec .ld_A_atHLdec s =
        .next { s with cpu := { s.cpu with a := v, h := ((hl - 1) >>> 8).setWidth 8, l := (hl - 1).setWidth 8 } }) ∧
    encode .ld_atHLinc_A = [0x22] ∧ encode .ld_A_atHLinc = [0x2A] ∧ encode .ld_atHLdec_A = [0x32] ∧ encode .ld_A_atHLdec = [0x3A] ∧
    cycles .ld_atHLinc_A s = 8 ∧ cycles .ld_A_atHLinc s = 8 ∧ cycles .ld_atHLdec_A s = 8 ∧ cycles .ld_A_atHLdec s = 8

/-! ### 16-bit loads and the stack -/

/-- 41_load16_stack.md R77-R79: `LD rr,nn`, `LD (nn),SP` (the low byte to `nn`, then the high byte to `nn + 1` mod 65536), `LD SP,HL`. -/
def Obligations.SixteenBitLoadResult : Prop :=
  ∀ (s t u : State) (i : Instr) (rr : R16) (nn : Word),
    (i.form = .ld16 rr nn →
      exec i s = .next (withPair s ((nn >>> 8).setWidth 8) (nn.setWidth 8) rr) ∧ cycles i s = 12 ∧
      encode i = [BitVec.ofNat 8 (0x01 + 16 * pairIndex rr), nn.setWidth 8, (nn >>> 8).setWidth 8]) ∧
    (busSet s nn (s.cpu.sp.setWidth 8) = .ok t → busSet t (nn + 1) ((s.cpu.sp >>> 8).setWidth 8) = .ok u →
      exec (.ld_atnn_SP nn) s = .next u ∧ encode (.ld_atnn_SP nn) = [0x08, nn.setWidth 8, (nn >>> 8).setWidth 8] ∧
      cycles (.ld_atnn_SP nn) s = 20) ∧
    exec .ld_SP_HL s = .next { s with cpu := { s.cpu with sp := s.cpu.h ++ s.cpu.l } } ∧ encode .ld_SP_HL = [0xF9] ∧
    cycles .ld_SP_HL s = 8

/-- 41_load16_stack.md R80, 43_alu16.md R103: `LD HL,SP+e` and `ADD SP,e`: the sum with the sign-extended byte mod 65536, Z = N = 0, H and C
the carries out of bits 3 and 7 of the unsigned addition of the raw byte to the low byte of `SP`. -/
def Obligations.StackPointerPlusDisplacementResult : Prop :=
  ∀ (s : State) (eb : Byte),
    let r : Word := s.cpu.sp + (if eb.toNat < 128 then eb.setWidth 16 else eb.setWidth 16 + 0xFF00)
    let f := packFlags false false (decide ((s.cpu.sp &&& 0x0F).toNat + (eb &&& 0x0F).toNat > 0x0F))
      (decide ((s.cpu.sp &&& 0xFF).toNat + eb.toNat > 0xFF))
    (exec (.ld_HL_SPe eb) s = .next { s with cpu := { s.cpu with h := (r >>> 8).setWidth 8, l := r.setWidth 8, f := f } } ∧
      encode (.ld_HL_SPe eb) = [0xF8, eb] ∧ cycles (.ld_HL_SPe eb) s = 12) ∧
    (exec (.add_SP_e eb) s = .next { s with cpu := { s.cpu with sp := r, f := f } } ∧
      encode (.add_SP_e eb) = [0xE8, eb] ∧ cycles (.add_SP_e eb) s = 16)

/-- 41_load16_stack.md R81, R83: `PUSH rr`: `SP` down by 2, the low byte to `SP`, then the high byte to `SP + 1`; `PUSH AF` pushes `A` high and
`F` low, its low nibble 0 where that of `F` is (the invariant's). -/
def Obligations.PushResult : Prop :=
  ∀ (s t u : State) (i : Instr) (rr : R16S),
    i.form = .push rr →
    let v := stackPairValue s rr
    busSet { s with cpu := { s.cpu with sp := s.cpu.sp - 2 } } (s.cpu.sp - 2) (v.setWidth 8) = .ok t →
    busSet t (s.cpu.sp - 1) ((v >>> 8).setWidth 8) = .ok u →
    exec i s = .next u ∧ encode i = [BitVec.ofNat 8 (0xC5 + 16 * stackPairIndex rr)] ∧ cycles i s = 16 ∧
    (rr = .AF → s.cpu.f &&& 0x0F = 0 → v.setWidth 8 &&& (0x0F : Byte) = 0)

/-- 41_load16_stack.md R82, R84: `POP rr`: the low byte from `SP`, the high byte from `SP + 1`, `SP` up by 2; `POP AF` drops the low nibble of the
byte for `F`. -/
def Obligations.PopResult : Prop :=
  ∀ (s : State) (i : Instr) (rr : R16S) (lo hi : Byte),
    i.form = .pop rr → busGet s s.cpu.sp = .ok lo → busGet s (s.cpu.sp + 1) = .ok hi →
    exec i s = .next (withStackPair { s with cpu := { s.cpu with sp := s.cpu.sp + 2 } } hi lo rr) ∧
    encode i = [BitVec.ofNat 8 (0xC1 + 16 * stackPairIndex rr)] ∧ cycles i s = 12

/-- 41_load16_stack.md R82, the stack round trip of the source: where both stack bytes lie in plain RAM in two different cells, a push
followed by a pop of the same pair gives the pair back and restores `SP`. The memory premise is the invariant's. -/
def Obligations.PushThenPopRestores : Prop :=
  ∀ (s : State) (i j : Instr) (rr : R16S),
    i.form = .push rr → j.form = .pop rr → Memory.wf s.mem = true → s.cpu.f &&& 0x0F = 0 →
    plainRam (s.cpu.sp - 2) → plainRam (s.cpu.sp - 1) →
    ∃ t, exec i s = .next t ∧ exec j t = .next { t with cpu := s.cpu } ∧ t.cpu = { s.cpu with sp := s.cpu.sp - 2 }

/-! ### 8-bit arithmetic and logic -/

/-- 42_alu8.md R85-R87: `ADD A,v` and `ADC A,v` in their three forms. -/
def Obligations.AddResult : Prop :=
  ∀ (s : State) (i : Instr) (v : Byte),
    let a := s.cpu.a.toNat
    let c := (s.cpu.f.getLsbD 4).toNat
    (AluOperand i .add s v →
      exec i s = .next { s with cpu := { s.cpu with
        a := BitVec.ofNat 8 (a + v.toNat)
        f := packFlags (decide ((a + v.toNat) % 256 = 0)) false (decide (a % 16 + v.toNat % 16 > 0x0F)) (decide (a + v.toNat > 0xFF)) } } ∧
      encode i = aluBytes 0 i.form ∧ cycles i s = aluCycles i.form) ∧
    (AluOperand i .adc s v →
      exec i s = .next { s with cpu := { s.cpu with
        a := BitVec.ofNat 8 (a + v.toNat + c)
        f := packFlags (decide ((a + v.toNat + c) % 256 = 0)) false (decide (a % 16 + v.toNat % 16 + c > 0x0F))
          (decide (a + v.toNat + c > 0xFF)) } } ∧
      encode i = aluBytes 1 i.form ∧ cycles i s = aluCycles i.form)

/-- 42_alu8.md R85, R88, R89, R93: `SUB v`, `SBC A,v` and `CP v` in their three forms; `CP` leaves `A`. -/
def Obligations.SubtractAndCompareResult : Prop :=
  ∀ (s : State) (i : Instr) (v : Byte),
    let a := s.cpu.a.toNat
    let c := (s.cpu.f.getLsbD 4).toNat
    let diff : Int := (a : Int) - v.toNat
    let subFlags := packFlags (decide (diff % 256 = 0)) true (decide (a % 16 < v.toNat % 16)) (decide (a < v.toNat))
    (AluOperand i .sub s v →
      exec i s = .next { s with cpu := { s.cpu with a := BitVec.ofInt 8 diff, f := subFlags } } ∧
      encode i = aluBytes 2 i.form ∧ cycles i s = aluCycles i.form) ∧
    (AluOperand i .sbc s v →
      exec i s = .next { s with cpu := { s.cpu with
        a := BitVec.ofInt 8 (diff - c)
        f := packFlags (decide ((diff - c) % 256 = 0)) true (decide (a % 16 < v.toNat % 16 + c)) (decide (a < v.toNat + c)) } } ∧
      encode i = aluBytes 3 i.form ∧ cycles i s = aluCycles i.form) ∧
    (AluOperand i .cp s v →
      exec i s = .next { s with cpu := { s.cpu with f := subFlags } } ∧
      encode i = aluBytes 7 i.form ∧ cycles i s = aluCycles i.form)

/-- 42_alu8.md R85, R90-R92: `AND v`, `XOR v` and `OR v` in their three forms, bit by bit. -/
def Obligations.LogicResult : Prop :=
  ∀ (s : State) (i : Instr) (v r : Byte),
    (AluOperand i .and s v → (∀ k < 8, r.getLsbD k = (s.cpu.a.getLsbD k && v.getLsbD k)) →
      exec i s = .next { s with cpu := { s.cpu with a := r, f := packFlags (decide (r = 0)) false true false } } ∧
      encode i = aluBytes 4 i.form ∧ cycles i s = aluCycles i.form) ∧
    (AluOperand i .xor s v → (∀ k < 8, r.getLsbD k = (s.cpu.a.getLsbD k ^^ v.getLsbD k)) →
      exec i s = .next { s with cpu := { s.cpu with a := r, f := packFlags (decide (r = 0)) false false false } } ∧
      encode i = aluBytes 5 i.form ∧ cycles i s = aluCycles i.form) ∧
    (AluOperand i .or s v → (∀ k < 8, r.getLsbD k = (s.cpu.a.getLsbD k || v.getLsbD k)) →
      exec i s = .next { s with cpu := { s.cpu with a := r, f := packFlags (decide (r = 0)) false false false } } ∧
      encode i = aluBytes 6 i.form ∧ cycles i s = aluCycles i.form)

/-- 42_alu8.md R94, R95: `INC` and `DEC` of a slot of `reg8`, C unchanged; `(HL)` is read and then written. -/
def Obligations.IncrementDecrementResult : Prop :=
  ∀ (s t : State) (i : Instr) (r : R8) (v : Byte),
    Holds8 s r v →
    (i.form = .inc8 r →
      Written8 { s with cpu := { s.cpu with
        f := packFlags (decide ((v.toNat + 1) % 256 = 0)) false (decide ((v &&& 0x0F).toNat = 0x0F)) (s.cpu.f.getLsbD 4) } }
        r (BitVec.ofNat 8 (v.toNat + 1)) t →
      exec i s = .next t ∧ encode i = [BitVec.ofNat 8 (0x04 + 8 * r.index)] ∧ cycles i s = (if r = .atHL then 12 else 4)) ∧
    (i.form = .dec8 r →
      Written8 { s with cpu := { s.cpu with
        f := packFlags (decide (v.toNat = 1)) true (decide ((v &&& 0x0F).toNat = 0x00)) (s.cpu.f.getLsbD 4) } }
        r (BitVec.ofNat 8 (v.toNat + 255)) t →
      exec i s = .next t ∧ encode i = [BitVec.ofNat 8 (0x05 + 8 * r.index)] ∧ cycles i s = (if r = .atHL then 12 else 4))

/-- 42_alu8.md R96: `DAA`, the adjustment and the flags; both tests of the add direction look at `A` before any adjustment. -/
def Obligations.DecimalAdjustResult : Prop :=
  ∀ (s : State),
    let a := s.cpu.a.toNat
    let z := fun (r : Nat) => decide (r % 256 = 0)
    let n := s.cpu.f.getLsbD 6
    let low := if s.cpu.f.getLsbD 5 = true ∨ (n = false ∧ a % 16 > 0x09) then 0x06 else 0
    let high := if s.cpu.f.getLsbD 4 = true ∨ (n = false ∧ a > 0x99) then 0x60 else 0
    let r := if n then a + 256 - (low + high) else a + (low + high)
    exec .daa s = .next { s with cpu := { s.cpu with a := BitVec.ofNat 8 r, f := packFlags (z r) n false (decide (high = 0x60)) } } ∧
    encode .daa = [0x27] ∧ cycles .daa s = 4

/-- 42_alu8.md R96, the source's DAA property: for two BCD bytes, `ADD A,B` and then `DAA` give the BCD sum mod 100, with C set iff the sum
is 100 or more. -/
def Obligations.AddThenDecimalAdjustIsBcdAddition : Prop :=
  ∀ (s : State) (x y : Nat), x < 100 → y < 100 →
    s.cpu.a = BitVec.ofNat 8 (16 * (x / 10) + x % 10) → s.cpu.b = BitVec.ofNat 8 (16 * (y / 10) + y % 10) →
    ∃ t u, exec .add_A_B s = .next t ∧ exec .daa t = .next u ∧
      u.cpu.a = BitVec.ofNat 8 (16 * ((x + y) % 100 / 10) + (x + y) % 10) ∧
      (u.cpu.f.getLsbD 4 = true ↔ 100 ≤ x + y)

/-- 42_alu8.md R97-R99: `CPL`, `SCF`, `CCF`. -/
def Obligations.ComplementAndCarryResult : Prop :=
  ∀ (s : State),
    let f := s.cpu.f
    (exec .cpl s = .next { s with cpu := { s.cpu with a := ~~~s.cpu.a, f := packFlags (f.getLsbD 7) true true (f.getLsbD 4) } } ∧
      encode .cpl = [0x2F] ∧ cycles .cpl s = 4) ∧
    (exec .scf s = .next { s with cpu := { s.cpu with f := packFlags (f.getLsbD 7) false false true } } ∧
      encode .scf = [0x37] ∧ cycles .scf s = 4) ∧
    (exec .ccf s = .next { s with cpu := { s.cpu with f := packFlags (f.getLsbD 7) false false (!f.getLsbD 4) } } ∧
      encode .ccf = [0x3F] ∧ cycles .ccf s = 4)

/-! ### 16-bit arithmetic -/

/-- 43_alu16.md R100-R102: `ADD HL,rr` (Z unchanged), `INC rr` and `DEC rr` (no flag). -/
def Obligations.SixteenBitArithmeticResult : Prop :=
  ∀ (s : State) (i : Instr) (rr : R16),
    let v := (pairValue s rr).toNat
    let hl := (pairValue s .HL).toNat
    (i.form = .addHL rr →
      exec i s = .next { s with cpu := { s.cpu with
        h := BitVec.ofNat 8 ((hl + v) / 256)
        l := BitVec.ofNat 8 (hl + v)
        f := packFlags (s.cpu.f.getLsbD 7) false (decide (hl % 0x1000 + v % 0x1000 > 0x0FFF)) (decide (hl + v > 0xFFFF)) } } ∧
      encode i = [BitVec.ofNat 8 (0x09 + 16 * pairIndex rr)] ∧ cycles i s = 8) ∧
    (i.form = .inc16 rr →
      exec i s = .next (withPair s (BitVec.ofNat 8 ((v + 1) / 256)) (BitVec.ofNat 8 (v + 1)) rr) ∧
      encode i = [BitVec.ofNat 8 (0x03 + 16 * pairIndex rr)] ∧ cycles i s = 8) ∧
    (i.form = .dec16 rr →
      exec i s = .next (withPair s (BitVec.ofNat 8 ((v + 0xFFFF) / 256)) (BitVec.ofNat 8 (v + 0xFFFF)) rr) ∧
      encode i = [BitVec.ofNat 8 (0x0B + 16 * pairIndex rr)] ∧ cycles i s = 8)

/-! ### Rotates, shifts, bits -/

/-- 44_rotate_shift_bit.md R104-R107: the four accumulator rotates, bit by bit; Z = N = H = 0, C the bit rotated out. -/
def Obligations.AccumulatorRotateResult : Prop :=
  ∀ (s : State) (r : Byte),
    let a := s.cpu.a
    let c := s.cpu.f.getLsbD 4
    let left := fun (b0 : Bool) => r.getLsbD 0 = b0 ∧ ∀ k < 7, r.getLsbD (k + 1) = a.getLsbD k
    let right := fun (b7 : Bool) => r.getLsbD 7 = b7 ∧ ∀ k < 7, r.getLsbD k = a.getLsbD (k + 1)
    let after := fun (carry : Bool) =>
      (.next { s with cpu := { s.cpu with a := r, f := packFlags false false false carry } } : Host.Outcome State Fault Refusal)
    (left (a.getLsbD 7) → exec .rlca s = after (a.getLsbD 7)) ∧ (right (a.getLsbD 0) → exec .rrca s = after (a.getLsbD 0)) ∧
    (left c → exec .rla s = after (a.getLsbD 7)) ∧ (right c → exec .rra s = after (a.getLsbD 0)) ∧
    encode .rlca = [0x07] ∧ encode .rrca = [0x0F] ∧ encode .rla = [0x17] ∧ encode .rra = [0x1F] ∧
    cycles .rlca s = 4 ∧ cycles .rrca s = 4 ∧ cycles .rla s = 4 ∧ cycles .rra s = 4

/-- 44_rotate_shift_bit.md R108-R116: the eight prefixed rotates, shifts and `SWAP`, bit by bit, on every slot of `reg8`; N = H = 0, C the bit
shifted out (0 for `SWAP`), and Z by `ROT_Z_POLICY`. -/
def Obligations.PrefixedRotateResult : Prop :=
  ∀ (s t : State) (r : R8) (v x : Byte),
    Holds8 s r v → Written8 s r x t →
    let c := s.cpu.f.getLsbD 4
    let z : Bool := (match s.cfg.rotZPolicy with | .alwaysClear => false | .resultZero => decide (x = 0))
    let left := fun (b0 : Bool) => x.getLsbD 0 = b0 ∧ ∀ k < 7, x.getLsbD (k + 1) = v.getLsbD k
    let right := fun (b7 : Bool) => x.getLsbD 7 = b7 ∧ ∀ k < 7, x.getLsbD k = v.getLsbD (k + 1)
    let after := fun (i : Instr) (carry : Bool) (op2 : Nat) =>
      exec i s = .next { t with cpu := { t.cpu with f := packFlags z false false carry } } ∧
      encode i = [0xCB, BitVec.ofNat 8 (op2 + r.index)] ∧ cycles i s = (if r = .atHL then 16 else 8)
    (left (v.getLsbD 7) → after (.rlc r) (v.getLsbD 7) 0x00) ∧ (right (v.getLsbD 0) → after (.rrc r) (v.getLsbD 0) 0x08) ∧
    (left c → after (.rl r) (v.getLsbD 7) 0x10) ∧ (right c → after (.rr r) (v.getLsbD 0) 0x18) ∧
    (left false → after (.sla r) (v.getLsbD 7) 0x20) ∧ (right (v.getLsbD 7) → after (.sra r) (v.getLsbD 0) 0x28) ∧
    ((∀ k < 4, x.getLsbD k = v.getLsbD (k + 4) ∧ x.getLsbD (k + 4) = v.getLsbD k) → after (.swap r) false 0x30) ∧
    (right false → after (.srl r) (v.getLsbD 0) 0x38)

/-- 44_rotate_shift_bit.md R117-R119: `BIT b` (Z is the complement of the bit, N = 0, H = 1, C kept, nothing written back), `RES b` and
`SET b` (the bit changes, no flag), on every slot of `reg8`. -/
def Obligations.BitTestResetSetResult : Prop :=
  ∀ (s t : State) (i : Instr) (b : Fin 8) (r : R8) (v x : Byte),
    Holds8 s r v →
    (i.form = .bit b r →
      exec i s = .next { s with cpu := { s.cpu with f := packFlags (!v.getLsbD b.val) false true (s.cpu.f.getLsbD 4) } } ∧
      encode i = [0xCB, BitVec.ofNat 8 (0x40 + 8 * b.val + r.index)] ∧ cycles i s = (if r = .atHL then 12 else 8)) ∧
    (i.form = .res b r → (∀ k < 8, x.getLsbD k = (v.getLsbD k && decide (k ≠ b.val))) → Written8 s r x t →
      exec i s = .next t ∧ encode i = [0xCB, BitVec.ofNat 8 (0x80 + 8 * b.val + r.index)] ∧
      cycles i s = (if r = .atHL then 16 else 8)) ∧
    (i.form = .set b r → (∀ k < 8, x.getLsbD k = (v.getLsbD k || decide (k = b.val))) → Written8 s r x t →
      exec i s = .next t ∧ encode i = [0xCB, BitVec.ofNat 8 (0xC0 + 8 * b.val + r.index)] ∧
      cycles i s = (if r = .atHL then 16 else 8))

/-! ### Control transfer -/

/-- 45_control_flow.md R120-R125: the jumps; only `PC` changes, and where the condition is not met nothing does. -/
def Obligations.JumpResult : Prop :=
  ∀ (s : State) (i : Instr) (cc : Cond) (nn : Word) (eb : Byte),
    let at_ := fun (a : Word) => (.next { s with cpu := { s.cpu with pc := a } } : Host.Outcome State Fault Refusal)
    let rel : Word := s.cpu.pc + (if eb.toNat < 128 then eb.setWidth 16 else eb.setWidth 16 + 0xFF00)
    (exec (.jp_nn nn) s = at_ nn ∧ encode (.jp_nn nn) = [0xC3, nn.setWidth 8, (nn >>> 8).setWidth 8] ∧ cycles (.jp_nn nn) s = 16) ∧
    (exec .jp_HL s = at_ (s.cpu.h ++ s.cpu.l) ∧ encode .jp_HL = [0xE9] ∧ cycles .jp_HL s = 4) ∧
    (exec (.jr_e eb) s = at_ rel ∧ encode (.jr_e eb) = [0x18, eb] ∧ cycles (.jr_e eb) s = 12) ∧
    (i.form = .jpCond cc nn →
      encode i = [BitVec.ofNat 8 (0xC2 + 8 * condIndex cc), nn.setWidth 8, (nn >>> 8).setWidth 8] ∧
      (ConditionMet cc s.cpu.f → exec i s = at_ nn ∧ cycles i s = 16) ∧
      (¬ ConditionMet cc s.cpu.f → exec i s = .next s ∧ cycles i s = 12)) ∧
    (i.form = .jrCond cc eb →
      encode i = [BitVec.ofNat 8 (0x20 + 8 * condIndex cc), eb] ∧
      (ConditionMet cc s.cpu.f → exec i s = at_ rel ∧ cycles i s = 12) ∧
      (¬ ConditionMet cc s.cpu.f → exec i s = .next s ∧ cycles i s = 8))

/-- 45_control_flow.md R126, R127, R131: `CALL nn`, `CALL cc,nn` and `RST`: the address after the instruction is pushed, low byte first, and `PC`
is the target; a call not taken changes nothing. -/
def Obligations.CallResult : Prop :=
  ∀ (s t u : State) (i : Instr) (cc : Cond) (nn : Word) (y : Fin 8),
    busSet { s with cpu := { s.cpu with sp := s.cpu.sp - 2 } } (s.cpu.sp - 2) (s.cpu.pc.setWidth 8) = .ok t →
    busSet t (s.cpu.sp - 1) ((s.cpu.pc >>> 8).setWidth 8) = .ok u →
    let target := fun (a : Word) => (.next { u with cpu := { u.cpu with pc := a } } : Host.Outcome State Fault Refusal)
    (exec (.call_nn nn) s = target nn ∧ encode (.call_nn nn) = [0xCD, nn.setWidth 8, (nn >>> 8).setWidth 8] ∧ cycles (.call_nn nn) s = 24) ∧
    (i.form = .callCond cc nn →
      encode i = [BitVec.ofNat 8 (0xC4 + 8 * condIndex cc), nn.setWidth 8, (nn >>> 8).setWidth 8] ∧
      (ConditionMet cc s.cpu.f → exec i s = target nn ∧ cycles i s = 24) ∧
      (¬ ConditionMet cc s.cpu.f → exec i s = .next s ∧ cycles i s = 12)) ∧
    (i.form = .rst y →
      exec i s = target (BitVec.ofNat 16 (8 * y.val)) ∧ encode i = [BitVec.ofNat 8 (0xC7 + 8 * y.val)] ∧ cycles i s = 16)

/-- 45_control_flow.md R128-R130: `RET`, `RET cc`, `RETI`: `PC` from the stack, `SP` up by 2; `RETI` also sets `IME`; nothing else is restored. -/
def Obligations.ReturnResult : Prop :=
  ∀ (s : State) (i : Instr) (cc : Cond) (lo hi : Byte),
    busGet s s.cpu.sp = .ok lo → busGet s (s.cpu.sp + 1) = .ok hi →
    let back := { s with cpu := { s.cpu with pc := hi ++ lo, sp := s.cpu.sp + 2 } }
    (exec .ret s = .next back ∧ encode .ret = [0xC9] ∧ cycles .ret s = 16) ∧
    (exec .reti s = .next { back with cpu := { back.cpu with ime := true } } ∧ encode .reti = [0xD9] ∧ cycles .reti s = 16) ∧
    (i.form = .retCond cc →
      encode i = [BitVec.ofNat 8 (0xC0 + 8 * condIndex cc)] ∧
      (ConditionMet cc s.cpu.f → exec i s = .next back ∧ cycles i s = 20) ∧
      (¬ ConditionMet cc s.cpu.f → exec i s = .next s ∧ cycles i s = 8))

/-! ### System instructions -/

/-- 46_system.md R132-R136: `NOP`, `HALT`, `STOP` (an alias of `HALT`, one byte), `DI`, `EI` (at once). -/
def Obligations.SystemInstructionResult : Prop :=
  ∀ (s : State),
    (exec .nop s = .next s ∧ encode .nop = [0x00] ∧ cycles .nop s = 4) ∧
    (exec .halt s = .next { s with cpu := { s.cpu with halted := true } } ∧ encode .halt = [0x76] ∧ cycles .halt s = 4) ∧
    (exec .stop s = .next { s with cpu := { s.cpu with halted := true } } ∧ encode .stop = [0x10] ∧ cycles .stop s = 4) ∧
    (exec .di s = .next { s with cpu := { s.cpu with ime := false } } ∧ encode .di = [0xF3] ∧ cycles .di s = 4) ∧
    (exec .ei s = .next { s with cpu := { s.cpu with ime := true } } ∧ encode .ei = [0xFB] ∧ cycles .ei s = 4)

/-- 46_system.md R137: the prefix byte with the byte after it is the prefixed instruction that byte selects, in effect, bytes and
cycles; it completes where the memory operand, if it is one, can be read and written. -/
def Obligations.PrefixByteSelectsTheSecondTable : Prop :=
  ∀ (s : State) (op2 : Byte),
    (∃ i, decode [0xCB, op2] = .ok (i, []) ∧ encode i = encode (.prefixCB op2) ∧ exec (.prefixCB op2) s = exec i s ∧
      cycles (.prefixCB op2) s = cycles i s) ∧
    (readable s (s.cpu.h ++ s.cpu.l) → (∀ v, storable s (s.cpu.h ++ s.cpu.l) v) → ∃ t, exec (.prefixCB op2) s = .next t)

/-! ### Frames -/

/-- 10_state.md R6-R15, 20_memory.md R25: an instruction that writes nothing through the Bus changes nothing but CPU registers: every byte
of memory and every device register is unchanged. -/
def Obligations.InstructionsThatStoreNothingKeepMemory : Prop :=
  ∀ (s t : State) (i : Instr), storesAt i.form s = [] → exec i s = .next t →
    t = { s with cpu := t.cpu } ∧ ∀ k, t.peek k = s.peek k

/-- 20_memory.md R25, R31, R40, R43: an instruction that writes through the Bus leaves every storage byte as it was but the cells of the
addresses it writes; a write to 0xFF46, which copies a block into OAM, is `DmaCopiesTheBlock`'s. The memory premise is the
invariant's. -/
def Obligations.StoringInstructionsKeepOtherMemory : Prop :=
  ∀ (s t : State) (i : Instr), Memory.wf s.mem = true → exec i s = .next t → (0xFF46 ∉ storesAt i.form s) →
    ∀ k, (∀ a ∈ storesAt i.form s, storeKey s a ≠ some k) → t.peek k = s.peek k

/-- 10_state.md R13-R15: `IME` is changed only by `EI`, `DI` and `RETI`, `halted` only by `HALT` and `STOP`, and the flags by no load other
than `POP AF` and `LD HL,SP+e`, no 16-bit increment or decrement, no control transfer, no `RES` or `SET`, no system instruction. -/
def Obligations.ControlStateAndFlagsWriters : Prop :=
  ∀ (s t : State) (i : Instr), exec i s = .next t →
    (t.cpu.ime ≠ s.cpu.ime → i = .ei ∨ i = .di ∨ i = .reti) ∧
    (t.cpu.halted ≠ s.cpu.halted → i = .halt ∨ i = .stop) ∧
    ((match i.form with
      | .ld8 _ _ | .ld8n _ _ | .ldAInd _ | .ldIndA _ | .ldAAbs _ | .ldAbsA _ | .ldhAn _ | .ldhnA _ | .ldhAC | .ldhCA
      | .ldHLincA | .ldAHLinc | .ldHLdecA | .ldAHLdec | .ld16 _ _ | .ldAbsSP _ | .ldSPHL | .push _ | .pop .BC | .pop .DE | .pop .HL
      | .inc16 _ | .dec16 _ | .res _ _ | .set _ _ | .jp _ | .jpCond _ _ | .jpHL | .jr _ | .jrCond _ _ | .call _ | .callCond _ _
      | .ret | .retCond _ | .reti | .rst _ | .nop | .halt | .stop | .di | .ei => True
      | _ => False) → t.cpu.f = s.cpu.f)

/-! ### The Bus -/

/-- 20_memory.md R27, R30-R33, R42: what a read of each range of the address map gives: the boot ROM while enabled, plain RAM, the mirror,
unmapped space, and the register bytes of the devices (10_state.md R17-R20). -/
def Obligations.BusReadsFollowTheMap : Prop :=
  ∀ (s : State) (a : Word),
    (s.bootEnabled = true → inRange 0x0000 0x00FF a → busGet s a = .ok (s.peek (bootBase + a.toNat))) ∧
    (s.bootEnabled = false → inRange 0x0000 0x3FFF a → busGet s a = .ok (s.peek (romBase + a.toNat))) ∧
    (inRange 0x0100 0x3FFF a → busGet s a = .ok (s.peek (romBase + a.toNat))) ∧
    (plainRam a → busGet s a = .ok (s.peek (unmirror a).toNat)) ∧
    (unmapped a → busGet s a = .ok 0xFF) ∧
    busGet s 0xFF01 = .ok s.serial.sb ∧ busGet s 0xFF02 = .ok s.serial.sc ∧
    busGet s 0xFF04 = .ok s.timer.div ∧ busGet s 0xFF05 = .ok s.timer.tima ∧ busGet s 0xFF06 = .ok s.timer.tma ∧
    busGet s 0xFF07 = .ok s.timer.tac ∧ busGet s 0xFF0F = .ok s.irq.flags ∧ busGet s 0xFFFF = .ok s.irq.enable ∧
    busGet s 0xFF40 = .ok s.ppu.lcdc ∧ busGet s 0xFF42 = .ok s.ppu.scy ∧ busGet s 0xFF43 = .ok s.ppu.scx ∧
    busGet s 0xFF44 = .ok s.ppu.ly ∧ busGet s 0xFF45 = .ok s.ppu.lyc ∧ busGet s 0xFF46 = .ok s.ppu.dmaW ∧
    busGet s 0xFF47 = .ok s.ppu.bgp ∧ busGet s 0xFF48 = .ok s.ppu.obp0 ∧ busGet s 0xFF49 = .ok s.ppu.obp1 ∧
    busGet s 0xFF4A = .ok s.ppu.wy ∧ busGet s 0xFF4B = .ok s.ppu.wx ∧ busGet s 0xFF50 = .ok 0xFF ∧
    (∃ v, busGet s 0xFF41 = .ok v ∧ (∀ k, 3 ≤ k → v.getLsbD k = s.ppu.statW.getLsbD k) ∧ v.getLsbD 2 = s.ppu.coincidence ∧
      (v.toNat % 4 = match s.ppu.mode with | .hblank => 0 | .vblank => 1 | .oamSearch => 2 | .dataTransfer => 3))

/-- 20_memory.md R28, R30-R33, R42: what a write in each range of the address map does: one cell of plain RAM, nothing in the enabled boot
ROM and in unmapped space, one register of a device (10_state.md R17-R20). -/
def Obligations.BusWritesFollowTheMap : Prop :=
  ∀ (s : State) (a : Word) (v : Byte),
    (s.bootEnabled = true → inRange 0x0000 0x00FF a → busSet s a v = .ok s) ∧
    (plainRam a → busSet s a v = .ok { s with mem := Memory.set s.mem (unmirror a).toNat v }) ∧
    (unmapped a → busSet s a v = .ok s) ∧
    busSet s 0xFF04 v = .ok { s with timer := { s.timer with div := v } } ∧
    busSet s 0xFF05 v = .ok { s with timer := { s.timer with tima := v } } ∧
    busSet s 0xFF06 v = .ok { s with timer := { s.timer with tma := v } } ∧
    busSet s 0xFF07 v = .ok { s with timer := { s.timer with tac := v } } ∧
    busSet s 0xFF0F v = .ok { s with irq := { s.irq with flags := v } } ∧
    busSet s 0xFFFF v = .ok { s with irq := { s.irq with enable := v } } ∧
    busSet s 0xFF40 v = .ok { s with ppu := { s.ppu with lcdc := v } } ∧
    busSet s 0xFF41 v = .ok { s with ppu := { s.ppu with statW := v } } ∧
    busSet s 0xFF42 v = .ok { s with ppu := { s.ppu with scy := v } } ∧
    busSet s 0xFF43 v = .ok { s with ppu := { s.ppu with scx := v } } ∧
    busSet s 0xFF44 v = .ok s ∧
    busSet s 0xFF45 v = .ok { s with ppu := { s.ppu with lyc := v } } ∧
    busSet s 0xFF47 v = .ok { s with ppu := { s.ppu with bgp := v } } ∧
    busSet s 0xFF48 v = .ok { s with ppu := { s.ppu with obp0 := v } } ∧
    busSet s 0xFF49 v = .ok { s with ppu := { s.ppu with obp1 := v } } ∧
    busSet s 0xFF4A v = .ok { s with ppu := { s.ppu with wy := v } } ∧
    busSet s 0xFF4B v = .ok { s with ppu := { s.ppu with wx := v } } ∧
    busSet s 0xFF50 v = .ok { s with bootEnabled := false }

/-- 20_memory.md R23, R31, R32, R43: a byte stored in plain RAM is what the next read of its cell gives, at its own address and at its
mirror, and a read of every other address gives what it gave. -/
def Obligations.PlainRamReadsBackWhatWasStored : Prop :=
  ∀ (s : State) (a : Word) (v : Byte), Memory.wf s.mem = true → plainRam a →
    ∃ t, busSet s a v = .ok t ∧ (∀ b, unmirror b = unmirror a → busGet t b = .ok v) ∧
      (∀ b, unmirror b ≠ unmirror a → busGet t b = busGet s b)

/-- 20_memory.md R34-R38: the four register windows of MBC1; where the boot ROM is enabled they start at 0x0100. -/
def Obligations.BankRegisterWindows : Prop :=
  ∀ (s : State) (a : Word) (v : Byte), (s.bootEnabled = true → 0x0100 ≤ a.toNat) →
    (inRange 0x0000 0x1FFF a → busSet s a v = .ok { s with mbc := { s.mbc with ramEnabled := decide (v.toNat % 16 = 0x0A) } }) ∧
    (inRange 0x2000 0x3FFF a → busSet s a v = .ok { s with mbc := { s.mbc with romBankLo := BitVec.ofNat 5 v.toNat } }) ∧
    (inRange 0x4000 0x5FFF a → s.mbc.mode = .ramBanking →
      busSet s a v = .ok { s with mbc := { s.mbc with ramBank := BitVec.ofNat 2 v.toNat } }) ∧
    (inRange 0x4000 0x5FFF a → s.mbc.mode = .romBanking →
      busSet s a v = .ok { s with mbc := { s.mbc with romBankHi := BitVec.ofNat 2 v.toNat } }) ∧
    (inRange 0x6000 0x7FFF a → v.toNat % 2 = 1 →
      busSet s a v = .ok { s with mbc := { s.mbc with mode := .ramBanking, romBankHi := 0 } }) ∧
    (inRange 0x6000 0x7FFF a → v.toNat % 2 = 0 →
      busSet s a v = .ok { s with mbc := { s.mbc with mode := .romBanking, ramBank := 0 } })

/-- 20_memory.md R39, R40: the banked reads and writes of the cartridge, and the two refusals; the bank read in the upper window is never
bank 0, whatever the latches hold. -/
def Obligations.BankedCartridgeAccess : Prop :=
  ∀ (s : State) (a : Word) (v : Byte) (bank i : Nat),
    bank = s.mbc.romBankHi.toNat * 32 + (if s.mbc.romBankLo.toNat = 0 then 1 else s.mbc.romBankLo.toNat) →
    i = s.mbc.ramBank.toNat * 0x2000 + (a.toNat - 0xA000) →
    bank ≠ 0 ∧
    (inRange 0x4000 0x7FFF a →
      busGet s a = if bank < romBanks s.cfg then .ok (s.peek (romBase + (bank * 0x4000 + (a.toNat - 0x4000))))
        else .error (.romBankBeyondImage bank)) ∧
    (inRange 0xA000 0xBFFF a →
      (s.mbc.ramEnabled = false → busGet s a = .ok 0xFF ∧ busSet s a v = .ok s) ∧
      (s.mbc.ramEnabled = true → i < ramBytes s.cfg →
        busGet s a = .ok (s.peek (cramBase + i)) ∧ busSet s a v = .ok { s with mem := Memory.set s.mem (cramBase + i) v }) ∧
      (s.mbc.ramEnabled = true → ramBytes s.cfg ≤ i →
        busGet s a = .error (.cartRamBeyondSize i) ∧ busSet s a v = .error (.cartRamBeyondSize i)))

/-- 20_memory.md R25, R27, R28, R39, R40: a bus read gives a byte exactly where the spec gives it a result, and so does a bus write. -/
def Obligations.AccessesAnswerWhereTheSpecDoes : Prop :=
  ∀ (s : State) (a : Word) (v : Byte),
    ((∃ b, busGet s a = .ok b) ↔ readable s a) ∧ ((∃ t, busSet s a v = .ok t) ↔ storable s a v)

/-- 20_memory.md R29, R41: block access: the plain RAM regions give the storage that byte reads give, every other address gives none. -/
def Obligations.BlockAccessIsPlainRam : Prop :=
  ∀ (s : State) (a : Word),
    (plainRam a → ∃ k, busGetBlock s a = some k ∧ busGet s a = .ok (s.peek k)) ∧ (¬ plainRam a → busGetBlock s a = none)

/-! ### Devices -/

/-- 61_ppu.md R175: a write of `v` to `DMA` stores `dma_w` and copies `DMA_LEN` bytes, read through the Bus from `v << 8` on, into `OAM`; no other
byte of memory and no other field changes. -/
def Obligations.DmaCopiesTheBlock : Prop :=
  ∀ (s : State) (v : Byte),
    let s1 := { s with ppu := { s.ppu with dmaW := v } }
    let len : Nat := (match s.cfg.dmaLen with | .literal9F => 0x9F | .hardwareA0 => 0xA0)
    Memory.wf s.mem = true → storable s 0xFF46 v →
    ∃ t, busSet s 0xFF46 v = .ok t ∧ t = { s1 with mem := t.mem } ∧
      (∀ i < len, busGet s1 (BitVec.ofNat 16 (v.toNat * 256 + i)) = .ok (t.peek (0xFE00 + i))) ∧
      (∀ k, ¬ (0xFE00 ≤ k ∧ k < 0xFE00 + len) → t.peek k = s.peek k)

/-- 60_exceptions.md R155, R156: the joypad register and its events, and the serial registers with the byte emitted to the host. -/
def Obligations.JoypadAndSerialBehaviour : Prop :=
  (∀ (s : State) (v : Byte),
    busSet s 0xFF00 v = .ok { s with joypad := { s.joypad with select := BitVec.ofNat 2 (v.toNat / 16) } } ∧
    (∃ p, busGet s 0xFF00 = .ok p ∧ p.getLsbD 7 = true ∧ p.getLsbD 6 = true ∧ p.getLsbD 5 = s.joypad.select.getLsbD 1 ∧
      p.getLsbD 4 = s.joypad.select.getLsbD 0 ∧
      ∀ k < 4, p.getLsbD k = !((!s.joypad.select.getLsbD 0 && s.joypad.buttons.getLsbD k) ||
        (!s.joypad.select.getLsbD 1 && s.joypad.buttons.getLsbD (k + 4)))) ∧
    busSet s 0xFF01 v = .ok { s with serial := { s.serial with sb := v } } ∧
    (v.getLsbD 7 = true → v.getLsbD 0 = true →
      busSet s 0xFF02 v = .ok { s with serial := { s.serial with sc := v, out := s.serial.out ++ [s.serial.sb] } }) ∧
    (v.getLsbD 7 = false ∨ v.getLsbD 0 = false → busSet s 0xFF02 v = .ok { s with serial := { s.serial with sc := v } })) ∧
  (∀ (s : State) (button : Button),
    let k : Nat := (match button with
      | .right => 0 | .left => 1 | .up => 2 | .down => 3 | .a => 4 | .b => 5 | .select => 6 | .start => 7)
    (s.joypad.buttons.getLsbD k = true → applyEvent s (.buttonDown button) = s) ∧
    (s.joypad.buttons.getLsbD k = false →
      applyEvent s (.buttonDown button) = { s with
        joypad := { s.joypad with buttons := s.joypad.buttons ||| ((1 : Byte) <<< k) }
        irq := { s.irq with flags := s.irq.flags ||| 0x10 } }) ∧
    applyEvent s (.buttonUp button) = { s with joypad := { s.joypad with buttons := s.joypad.buttons &&& ~~~((1 : Byte) <<< k) } })

/-- 60_exceptions.md R153: one tick of the Timer by `n` cycles: every crossing of the `DIV` threshold and, while enabled, of the `TIMA`
threshold is processed; nothing else changes. -/
def Obligations.TimerTickResult : Prop :=
  ∀ (n : Nat) (s : State),
    let d := s.timer.divSub + n
    let threshold : Nat := (match s.timer.tac.toNat % 4 with | 0 => 1024 | 1 => 16 | 2 => 64 | _ => 256)
    let u := s.timer.timaSub + n
    let x := (timaCrossing s.timer.tma)^[u / threshold] (s.timer.tima, false)
    let ticked := { s.timer with div := BitVec.ofNat 8 (s.timer.div.toNat + d / 256), divSub := d % 256 }
    (s.timer.tac.getLsbD 2 = false → timerTick n s = { s with timer := ticked }) ∧
    (s.timer.tac.getLsbD 2 = true → timerTick n s = { s with
      timer := { ticked with timaSub := u % threshold, tima := x.1 }
      irq := { s.irq with flags := if x.2 then s.irq.flags ||| 0x04 else s.irq.flags } })

/-- 61_ppu.md R164: one tick of the PPU by `n` cycles: within the line only the accumulator and, on a visible line, the mode change; each
456 cycles accumulated make one line boundary. -/
def Obligations.PpuTickResult : Prop :=
  ∀ (n : Nat) (s : State),
    let acc := s.ppu.acc + n
    (acc < 456 → s.ppu.ly.toNat < 144 →
      ppuTick n s = { s with ppu := { s.ppu with acc := acc, mode := if 80 ≤ acc then .dataTransfer else .oamSearch } }) ∧
    (acc < 456 → 144 ≤ s.ppu.ly.toNat → ppuTick n s = { s with ppu := { s.ppu with acc := acc } }) ∧
    (456 ≤ acc → ppuTick n s = lineBoundary^[acc / 456] { s with ppu := { s.ppu with acc := acc % 456 } })

/-- 61_ppu.md R165-R169, R176: one line boundary: the line rendered, `LY` and its wrap, the coincidence flag, the interrupt requests, the
frame published on entering line 144, the mode; nothing else changes. -/
def Obligations.LineBoundaryResult : Prop :=
  ∀ (s : State),
    let t := lineBoundary s
    let ly' : Byte := if s.ppu.ly.toNat + 1 > 153 then 0 else s.ppu.ly + 1
    let hit := decide (ly' = s.ppu.lyc)
    let v := decide (ly'.toNat = 144)
    let stat : Byte := if (hit && s.ppu.statW.getLsbD 6) || (v && s.ppu.statW.getLsbD 4) then 0x02 else 0
    let vbl : Byte := if v then 0x01 else 0
    t = { s with
      irq := { s.irq with flags := s.irq.flags ||| stat ||| vbl }
      ppu := { s.ppu with
        ly := ly', coincidence := hit, mode := if 144 ≤ ly'.toNat then .vblank else .hblank
        back := t.ppu.back, front := if v then t.ppu.back else s.ppu.front } } ∧
    (∀ y x, y ≠ s.ppu.ly.toNat → framePixel t.ppu.back y x = framePixel s.ppu.back y x) ∧
    (144 ≤ s.ppu.ly.toNat → t.ppu.back = s.ppu.back)

/-- 61_ppu.md R167, R168, the source's PPU property: from line 0, cycle 0, 143 ticks of 456 request no VBlank, the 144th enters line 144
in VBlank with the request, and 10 more return to line 0 in HBlank. -/
def Obligations.FrameOfTicks : Prop :=
  ∀ (s : State), s.ppu.ly = 0 → s.ppu.acc = 0 →
    (∀ m ≤ 143, ((ppuTick 456)^[m] s).ppu.ly.toNat = m ∧ ((ppuTick 456)^[m] s).irq.flags.getLsbD 0 = s.irq.flags.getLsbD 0) ∧
    (let u := (ppuTick 456)^[144] s;
      u.ppu.ly.toNat = 144 ∧ u.ppu.mode = .vblank ∧ u.irq.flags.getLsbD 0 = true ∧ u.ppu.front = u.ppu.back) ∧
    (let w := (ppuTick 456)^[154] s;
      w.ppu.ly = 0 ∧ w.ppu.mode = .hblank)

/-- 61_ppu.md R170-R173: with sprites off, the pixel a line boundary leaves in `back` is the window's or the background's, computed from the
tile map and the tile data at the bus addresses the rules give; with `LCDC[0] = 0` it is shade 0. -/
def Obligations.BackgroundAndWindowPixels : Prop :=
  ∀ (s : State) (x : Nat),
    let p := s.ppu
    let ly := p.ly.toNat
    let at_ := fun (base my mx : Nat) => tilePixelAt s (s.peek (base + 32 * (my / 8) + mx / 8)) (my % 8) (mx % 8)
    let shade := fun (idx : Nat) => (p.bgp >>> (2 * idx)).setWidth 2
    let got := framePixel (lineBoundary s).ppu.back ly x
    ly < 144 → x < 160 → p.back.length = 144 → p.lcdc.getLsbD 1 = false →
    (p.lcdc.getLsbD 0 = false → got = 0) ∧
    (p.lcdc.getLsbD 0 = true →
      (p.lcdc.getLsbD 5 = true ∧ p.wy.toNat ≤ ly ∧ p.wx.toNat ≤ x + 7 →
        got = shade (at_ (if p.lcdc.getLsbD 6 then 0x9C00 else 0x9800) (ly - p.wy.toNat) (x + 7 - p.wx.toNat))) ∧
      (¬ (p.lcdc.getLsbD 5 = true ∧ p.wy.toNat ≤ ly ∧ p.wx.toNat ≤ x + 7) →
        got = shade (at_ (if p.lcdc.getLsbD 3 then 0x9C00 else 0x9800) ((ly + p.scy.toNat) % 256) ((x + p.scx.toNat) % 256))))

/-- 61_ppu.md R174: with sprites on, a pixel is that of the last entry in the processing order that draws there, and the background's where
none does; `SpriteDraws` is the rule's own drawing condition. -/
def Obligations.SpritePixels : Prop :=
  ∀ (s : State) (x : Nat),
    let ly := s.ppu.ly.toNat
    let draws := SpriteDraws s ly x (bgIndex s ly x)
    let got := framePixel (lineBoundary s).ppu.back ly x
    ly < 144 → x < 160 → s.ppu.back.length = 144 → s.ppu.lcdc.getLsbD 1 = true →
    ((∀ i < 40, ∀ c, ¬ draws i c) → got = bgShade s ly x) ∧
    (∀ i < 40, ∀ c, draws i c →
      (s.cfg.spriteOrder = .laterOamWins → (∀ j < 40, i < j → ∀ c', ¬ draws j c') → got = c) ∧
      (s.cfg.spriteOrder = .earlierOamWins → (∀ j < i, ∀ c', ¬ draws j c') → got = c))

/-! ### The whole machine -/

/-- 10_state.md R8, R21, 61_ppu.md R161, R164, R165, 20_memory.md R38: every step keeps the invariant, from every state that has it. -/
def Obligations.StepKeepsTheInvariant : Prop :=
  ∀ (s t : State), s.Inv → step s = .next t → t.Inv

/-- The reset state has the invariant. -/
def Obligations.ResetHasTheInvariant : Prop :=
  State.reset.Inv

/-- 10_state.md R22, 70_reset_and_hazards.md R179: the values the spec gives for the launch state of the profiles `boot` and `skip`, for any
parameters and any launch contents of the storage arrays. -/
def Obligations.LaunchStateIsTheTable : Prop :=
  ∀ (cfg : Config) (contents : Memory),
    let s := State.launch cfg .boot contents
    s.cpu = { a := 0, f := 0, b := 0, c := 0, d := 0, e := 0, h := 0, l := 0, sp := 0, pc := 0, ime := false, halted := false } ∧
    s.irq = { flags := 0, enable := 0 } ∧
    s.timer = { div := 0, tima := 0, tma := 0, tac := 0, divSub := 0, timaSub := 0 } ∧
    s.ppu.lcdc = 0 ∧ s.ppu.statW = 0 ∧ s.ppu.scy = 0 ∧ s.ppu.scx = 0 ∧ s.ppu.lyc = 0 ∧ s.ppu.dmaW = 0 ∧ s.ppu.bgp = 0 ∧
    s.ppu.obp0 = 0 ∧ s.ppu.obp1 = 0 ∧ s.ppu.wy = 0 ∧ s.ppu.wx = 0 ∧ s.ppu.ly = 0 ∧ s.ppu.acc = 0 ∧ s.ppu.mode = .oamSearch ∧
    s.ppu.coincidence = false ∧ (∀ y x, framePixel s.ppu.front y x = 0 ∧ framePixel s.ppu.back y x = 0) ∧
    s.mbc = { romBankLo := 0, romBankHi := 0, ramBank := 0, ramEnabled := false, mode := .romBanking } ∧
    s.bootEnabled = true ∧ s.joypad = { select := 0b11, buttons := 0 } ∧ s.serial.sb = 0 ∧ s.serial.sc = 0 ∧
    s.cfg = cfg ∧ s.mem = contents ∧
    State.launch cfg .skip contents = { s with
      cpu := { a := 0x01, f := 0xB0, b := 0x00, c := 0x13, d := 0x00, e := 0xD8, h := 0x01, l := 0x4D, sp := 0xFFFE, pc := 0x0100,
               ime := false, halted := false }
      irq := { s.irq with flags := 0x01 }
      ppu := { s.ppu with lcdc := 0x91, bgp := 0xFC, obp0 := 0xFF, obp1 := 0xFF }
      bootEnabled := false }

/-- 20_memory.md R25, R33, R36-R39, 00_scope.md section 4: no step changes a byte of `ROM` or `BOOT_ROM` or a parameter of the machine, and
nothing enables the boot ROM again. The memory premise is the invariant's. -/
def Obligations.ReadOnlyStateStays : Prop :=
  ∀ (s t : State), Memory.wf s.mem = true → step s = .next t →
    t.cfg = s.cfg ∧ (t.bootEnabled = true → s.bootEnabled = true) ∧ ∀ k, bootBase ≤ k → t.peek k = s.peek k

/-- 61_ppu.md R176: the published frame changes in no step but one that enters line 144, and then it is the completed `back`. -/
def Obligations.FrontChangesOnlyOnEnteringVBlank : Prop :=
  ∀ (s t : State), s.ppu.acc < 456 → step s = .next t → t.ppu.front ≠ s.ppu.front →
    s.ppu.ly.toNat = 143 ∧ t.ppu.ly.toNat = 144 ∧ t.ppu.mode = .vblank ∧ t.irq.flags.getLsbD 0 = true ∧ t.ppu.front = t.ppu.back

/-- 30_encoding.md R57, 70_reset_and_hazards.md R183, R186: every executed instruction costs a positive multiple of 4 of at most 24 cycles, and a
conditional one costs less when its condition is not met. -/
def Obligations.CyclesAreBounded : Prop :=
  ∀ (i : Instr) (s : State), (∀ op, i ≠ .illegal op) →
    cycles i s % 4 = 0 ∧ 4 ≤ cycles i s ∧ cycles i s ≤ 24 ∧
    (∀ cc t, (∃ nn, i.form = .jpCond cc nn ∨ i.form = .callCond cc nn) ∨ (∃ eb, i.form = .jrCond cc eb) ∨ i.form = .retCond cc →
      ConditionMet cc s.cpu.f → ¬ ConditionMet cc t.cpu.f → cycles i t < cycles i s)
end

