-- ==== Sys2Proof/Laws/Flags.lean ====
section
/-! SUPPORT. The flag byte's bits, its mask, and the byte order of words. -/

namespace Sys2Proof.Machine

theorem packFlags_low : ∀ z n h c : Bool, packFlags z n h c &&& 0x0F = 0 := by decide

@[simp] theorem maskF_packFlags : ∀ z n h c : Bool, maskF (packFlags z n h c) = packFlags z n h c := by decide

@[simp] theorem flagZ_packFlags : ∀ z n h c : Bool, flagZ (packFlags z n h c) = z := by decide

@[simp] theorem flagN_packFlags : ∀ z n h c : Bool, flagN (packFlags z n h c) = n := by decide

@[simp] theorem flagH_packFlags : ∀ z n h c : Bool, flagH (packFlags z n h c) = h := by decide

@[simp] theorem flagC_packFlags : ∀ z n h c : Bool, flagC (packFlags z n h c) = c := by decide

@[simp] theorem maskF_low (v : Byte) : maskF v &&& 0x0F = 0 := by
  unfold maskF; rw [BitVec.and_assoc]; simp

/-- A flag byte with a zero lower nibble is not changed by the mask. -/
theorem maskF_eq_self {v : Byte} (h : v &&& 0x0F = 0) : maskF v = v := by
  revert v; decide

@[simp] theorem hiByte_wordOf (x y : Byte) : hiByte (wordOf x y) = x := by
  apply BitVec.eq_of_getLsbD_eq; intro i hi; simp only [hiByte, wordOf, BitVec.getLsbD_extractLsb', BitVec.getLsbD_append]; simp [hi]

@[simp] theorem loByte_wordOf (x y : Byte) : loByte (wordOf x y) = y := by
  apply BitVec.eq_of_getLsbD_eq; intro i hi; simp only [loByte, wordOf, BitVec.getLsbD_extractLsb', BitVec.getLsbD_append]; simp [hi]

@[simp] theorem wordOf_hi_lo (w : Word) : wordOf (hiByte w) (loByte w) = w := by
  apply BitVec.eq_of_getLsbD_eq
  intro i hi
  simp only [hiByte, loByte, wordOf, BitVec.getLsbD_append, BitVec.getLsbD_extractLsb']
  split
  · simp [*]
  · rename_i h; simp [show i - 8 < 8 by omega, show 8 + (i - 8) = i by omega]

theorem loByte_eq_setWidth (w : Word) : loByte w = w.setWidth 8 := by
  apply BitVec.eq_of_getLsbD_eq; intro i hi; simp [loByte, hi]

theorem hiByte_eq_shift (w : Word) : hiByte w = (w >>> 8).setWidth 8 := by
  apply BitVec.eq_of_getLsbD_eq; intro i hi; simp [hiByte, hi]

theorem wordOf_toNat (x y : Byte) : (wordOf x y).toNat = 256 * x.toNat + y.toNat := by
  have := y.isLt
  simp only [wordOf, BitVec.toNat_append]
  rw [Nat.shiftLeft_eq, Nat.mul_comm, ← Nat.two_pow_add_eq_or_of_lt this]

end Sys2Proof.Machine
end

