-- ==== Sys2Proof/Laws/State.lean ====
section
/-! SUPPORT. One lemma for each field of `State` and each named update of it: what the update writes, and that every other
field is the old one. -/

namespace Sys2Proof.Machine

variable (s : State)

@[simp] theorem State.setA_cfg (v : Byte) : (s.setA v).cfg = s.cfg := rfl
@[simp] theorem State.setA_cpu (v : Byte) : (s.setA v).cpu = { s.cpu with a := v } := rfl
@[simp] theorem State.setA_irq (v : Byte) : (s.setA v).irq = s.irq := rfl
@[simp] theorem State.setA_timer (v : Byte) : (s.setA v).timer = s.timer := rfl
@[simp] theorem State.setA_ppu (v : Byte) : (s.setA v).ppu = s.ppu := rfl
@[simp] theorem State.setA_mbc (v : Byte) : (s.setA v).mbc = s.mbc := rfl
@[simp] theorem State.setA_bootEnabled (v : Byte) : (s.setA v).bootEnabled = s.bootEnabled := rfl
@[simp] theorem State.setA_joypad (v : Byte) : (s.setA v).joypad = s.joypad := rfl
@[simp] theorem State.setA_serial (v : Byte) : (s.setA v).serial = s.serial := rfl
@[simp] theorem State.setA_mem (v : Byte) : (s.setA v).mem = s.mem := rfl
@[simp] theorem State.setA_inputs (v : Byte) : (s.setA v).inputs = s.inputs := rfl

@[simp] theorem State.setF_cfg (v : Byte) : (s.setF v).cfg = s.cfg := rfl
@[simp] theorem State.setF_cpu (v : Byte) : (s.setF v).cpu = { s.cpu with f := maskF v } := rfl
@[simp] theorem State.setF_irq (v : Byte) : (s.setF v).irq = s.irq := rfl
@[simp] theorem State.setF_timer (v : Byte) : (s.setF v).timer = s.timer := rfl
@[simp] theorem State.setF_ppu (v : Byte) : (s.setF v).ppu = s.ppu := rfl
@[simp] theorem State.setF_mbc (v : Byte) : (s.setF v).mbc = s.mbc := rfl
@[simp] theorem State.setF_bootEnabled (v : Byte) : (s.setF v).bootEnabled = s.bootEnabled := rfl
@[simp] theorem State.setF_joypad (v : Byte) : (s.setF v).joypad = s.joypad := rfl
@[simp] theorem State.setF_serial (v : Byte) : (s.setF v).serial = s.serial := rfl
@[simp] theorem State.setF_mem (v : Byte) : (s.setF v).mem = s.mem := rfl
@[simp] theorem State.setF_inputs (v : Byte) : (s.setF v).inputs = s.inputs := rfl

@[simp] theorem State.setBC_cfg (v : Word) : (s.setBC v).cfg = s.cfg := rfl
@[simp] theorem State.setBC_cpu (v : Word) : (s.setBC v).cpu = { s.cpu with b := hiByte v, c := loByte v } := rfl
@[simp] theorem State.setBC_irq (v : Word) : (s.setBC v).irq = s.irq := rfl
@[simp] theorem State.setBC_timer (v : Word) : (s.setBC v).timer = s.timer := rfl
@[simp] theorem State.setBC_ppu (v : Word) : (s.setBC v).ppu = s.ppu := rfl
@[simp] theorem State.setBC_mbc (v : Word) : (s.setBC v).mbc = s.mbc := rfl
@[simp] theorem State.setBC_bootEnabled (v : Word) : (s.setBC v).bootEnabled = s.bootEnabled := rfl
@[simp] theorem State.setBC_joypad (v : Word) : (s.setBC v).joypad = s.joypad := rfl
@[simp] theorem State.setBC_serial (v : Word) : (s.setBC v).serial = s.serial := rfl
@[simp] theorem State.setBC_mem (v : Word) : (s.setBC v).mem = s.mem := rfl
@[simp] theorem State.setBC_inputs (v : Word) : (s.setBC v).inputs = s.inputs := rfl

@[simp] theorem State.setDE_cfg (v : Word) : (s.setDE v).cfg = s.cfg := rfl
@[simp] theorem State.setDE_cpu (v : Word) : (s.setDE v).cpu = { s.cpu with d := hiByte v, e := loByte v } := rfl
@[simp] theorem State.setDE_irq (v : Word) : (s.setDE v).irq = s.irq := rfl
@[simp] theorem State.setDE_timer (v : Word) : (s.setDE v).timer = s.timer := rfl
@[simp] theorem State.setDE_ppu (v : Word) : (s.setDE v).ppu = s.ppu := rfl
@[simp] theorem State.setDE_mbc (v : Word) : (s.setDE v).mbc = s.mbc := rfl
@[simp] theorem State.setDE_bootEnabled (v : Word) : (s.setDE v).bootEnabled = s.bootEnabled := rfl
@[simp] theorem State.setDE_joypad (v : Word) : (s.setDE v).joypad = s.joypad := rfl
@[simp] theorem State.setDE_serial (v : Word) : (s.setDE v).serial = s.serial := rfl
@[simp] theorem State.setDE_mem (v : Word) : (s.setDE v).mem = s.mem := rfl
@[simp] theorem State.setDE_inputs (v : Word) : (s.setDE v).inputs = s.inputs := rfl

@[simp] theorem State.setHL_cfg (v : Word) : (s.setHL v).cfg = s.cfg := rfl
@[simp] theorem State.setHL_cpu (v : Word) : (s.setHL v).cpu = { s.cpu with h := hiByte v, l := loByte v } := rfl
@[simp] theorem State.setHL_irq (v : Word) : (s.setHL v).irq = s.irq := rfl
@[simp] theorem State.setHL_timer (v : Word) : (s.setHL v).timer = s.timer := rfl
@[simp] theorem State.setHL_ppu (v : Word) : (s.setHL v).ppu = s.ppu := rfl
@[simp] theorem State.setHL_mbc (v : Word) : (s.setHL v).mbc = s.mbc := rfl
@[simp] theorem State.setHL_bootEnabled (v : Word) : (s.setHL v).bootEnabled = s.bootEnabled := rfl
@[simp] theorem State.setHL_joypad (v : Word) : (s.setHL v).joypad = s.joypad := rfl
@[simp] theorem State.setHL_serial (v : Word) : (s.setHL v).serial = s.serial := rfl
@[simp] theorem State.setHL_mem (v : Word) : (s.setHL v).mem = s.mem := rfl
@[simp] theorem State.setHL_inputs (v : Word) : (s.setHL v).inputs = s.inputs := rfl

@[simp] theorem State.setAF_cfg (v : Word) : (s.setAF v).cfg = s.cfg := rfl
@[simp] theorem State.setAF_cpu (v : Word) : (s.setAF v).cpu = { s.cpu with a := hiByte v, f := maskF (loByte v) } := rfl
@[simp] theorem State.setAF_irq (v : Word) : (s.setAF v).irq = s.irq := rfl
@[simp] theorem State.setAF_timer (v : Word) : (s.setAF v).timer = s.timer := rfl
@[simp] theorem State.setAF_ppu (v : Word) : (s.setAF v).ppu = s.ppu := rfl
@[simp] theorem State.setAF_mbc (v : Word) : (s.setAF v).mbc = s.mbc := rfl
@[simp] theorem State.setAF_bootEnabled (v : Word) : (s.setAF v).bootEnabled = s.bootEnabled := rfl
@[simp] theorem State.setAF_joypad (v : Word) : (s.setAF v).joypad = s.joypad := rfl
@[simp] theorem State.setAF_serial (v : Word) : (s.setAF v).serial = s.serial := rfl
@[simp] theorem State.setAF_mem (v : Word) : (s.setAF v).mem = s.mem := rfl
@[simp] theorem State.setAF_inputs (v : Word) : (s.setAF v).inputs = s.inputs := rfl

@[simp] theorem State.setSP_cfg (v : Word) : (s.setSP v).cfg = s.cfg := rfl
@[simp] theorem State.setSP_cpu (v : Word) : (s.setSP v).cpu = { s.cpu with sp := v } := rfl
@[simp] theorem State.setSP_irq (v : Word) : (s.setSP v).irq = s.irq := rfl
@[simp] theorem State.setSP_timer (v : Word) : (s.setSP v).timer = s.timer := rfl
@[simp] theorem State.setSP_ppu (v : Word) : (s.setSP v).ppu = s.ppu := rfl
@[simp] theorem State.setSP_mbc (v : Word) : (s.setSP v).mbc = s.mbc := rfl
@[simp] theorem State.setSP_bootEnabled (v : Word) : (s.setSP v).bootEnabled = s.bootEnabled := rfl
@[simp] theorem State.setSP_joypad (v : Word) : (s.setSP v).joypad = s.joypad := rfl
@[simp] theorem State.setSP_serial (v : Word) : (s.setSP v).serial = s.serial := rfl
@[simp] theorem State.setSP_mem (v : Word) : (s.setSP v).mem = s.mem := rfl
@[simp] theorem State.setSP_inputs (v : Word) : (s.setSP v).inputs = s.inputs := rfl

@[simp] theorem State.setPC_cfg (v : Word) : (s.setPC v).cfg = s.cfg := rfl
@[simp] theorem State.setPC_cpu (v : Word) : (s.setPC v).cpu = { s.cpu with pc := v } := rfl
@[simp] theorem State.setPC_irq (v : Word) : (s.setPC v).irq = s.irq := rfl
@[simp] theorem State.setPC_timer (v : Word) : (s.setPC v).timer = s.timer := rfl
@[simp] theorem State.setPC_ppu (v : Word) : (s.setPC v).ppu = s.ppu := rfl
@[simp] theorem State.setPC_mbc (v : Word) : (s.setPC v).mbc = s.mbc := rfl
@[simp] theorem State.setPC_bootEnabled (v : Word) : (s.setPC v).bootEnabled = s.bootEnabled := rfl
@[simp] theorem State.setPC_joypad (v : Word) : (s.setPC v).joypad = s.joypad := rfl
@[simp] theorem State.setPC_serial (v : Word) : (s.setPC v).serial = s.serial := rfl
@[simp] theorem State.setPC_mem (v : Word) : (s.setPC v).mem = s.mem := rfl
@[simp] theorem State.setPC_inputs (v : Word) : (s.setPC v).inputs = s.inputs := rfl

@[simp] theorem State.setIME_cfg (v : Bool) : (s.setIME v).cfg = s.cfg := rfl
@[simp] theorem State.setIME_cpu (v : Bool) : (s.setIME v).cpu = { s.cpu with ime := v } := rfl
@[simp] theorem State.setIME_irq (v : Bool) : (s.setIME v).irq = s.irq := rfl
@[simp] theorem State.setIME_timer (v : Bool) : (s.setIME v).timer = s.timer := rfl
@[simp] theorem State.setIME_ppu (v : Bool) : (s.setIME v).ppu = s.ppu := rfl
@[simp] theorem State.setIME_mbc (v : Bool) : (s.setIME v).mbc = s.mbc := rfl
@[simp] theorem State.setIME_bootEnabled (v : Bool) : (s.setIME v).bootEnabled = s.bootEnabled := rfl
@[simp] theorem State.setIME_joypad (v : Bool) : (s.setIME v).joypad = s.joypad := rfl
@[simp] theorem State.setIME_serial (v : Bool) : (s.setIME v).serial = s.serial := rfl
@[simp] theorem State.setIME_mem (v : Bool) : (s.setIME v).mem = s.mem := rfl
@[simp] theorem State.setIME_inputs (v : Bool) : (s.setIME v).inputs = s.inputs := rfl

@[simp] theorem State.setHalted_cfg (v : Bool) : (s.setHalted v).cfg = s.cfg := rfl
@[simp] theorem State.setHalted_cpu (v : Bool) : (s.setHalted v).cpu = { s.cpu with halted := v } := rfl
@[simp] theorem State.setHalted_irq (v : Bool) : (s.setHalted v).irq = s.irq := rfl
@[simp] theorem State.setHalted_timer (v : Bool) : (s.setHalted v).timer = s.timer := rfl
@[simp] theorem State.setHalted_ppu (v : Bool) : (s.setHalted v).ppu = s.ppu := rfl
@[simp] theorem State.setHalted_mbc (v : Bool) : (s.setHalted v).mbc = s.mbc := rfl
@[simp] theorem State.setHalted_bootEnabled (v : Bool) : (s.setHalted v).bootEnabled = s.bootEnabled := rfl
@[simp] theorem State.setHalted_joypad (v : Bool) : (s.setHalted v).joypad = s.joypad := rfl
@[simp] theorem State.setHalted_serial (v : Bool) : (s.setHalted v).serial = s.serial := rfl
@[simp] theorem State.setHalted_mem (v : Bool) : (s.setHalted v).mem = s.mem := rfl
@[simp] theorem State.setHalted_inputs (v : Bool) : (s.setHalted v).inputs = s.inputs := rfl

@[simp] theorem State.requestInterrupt_cfg (k : Nat) : (s.requestInterrupt k).cfg = s.cfg := rfl
@[simp] theorem State.requestInterrupt_cpu (k : Nat) : (s.requestInterrupt k).cpu = s.cpu := rfl
@[simp] theorem State.requestInterrupt_irq (k : Nat) : (s.requestInterrupt k).irq = { s.irq with flags := s.irq.flags ||| ((1 : Byte) <<< k) } := rfl
@[simp] theorem State.requestInterrupt_timer (k : Nat) : (s.requestInterrupt k).timer = s.timer := rfl
@[simp] theorem State.requestInterrupt_ppu (k : Nat) : (s.requestInterrupt k).ppu = s.ppu := rfl
@[simp] theorem State.requestInterrupt_mbc (k : Nat) : (s.requestInterrupt k).mbc = s.mbc := rfl
@[simp] theorem State.requestInterrupt_bootEnabled (k : Nat) : (s.requestInterrupt k).bootEnabled = s.bootEnabled := rfl
@[simp] theorem State.requestInterrupt_joypad (k : Nat) : (s.requestInterrupt k).joypad = s.joypad := rfl
@[simp] theorem State.requestInterrupt_serial (k : Nat) : (s.requestInterrupt k).serial = s.serial := rfl
@[simp] theorem State.requestInterrupt_mem (k : Nat) : (s.requestInterrupt k).mem = s.mem := rfl
@[simp] theorem State.requestInterrupt_inputs (k : Nat) : (s.requestInterrupt k).inputs = s.inputs := rfl

@[simp] theorem State.poke_cfg (k : Nat) (v : Byte) : (s.poke k v).cfg = s.cfg := rfl
@[simp] theorem State.poke_cpu (k : Nat) (v : Byte) : (s.poke k v).cpu = s.cpu := rfl
@[simp] theorem State.poke_irq (k : Nat) (v : Byte) : (s.poke k v).irq = s.irq := rfl
@[simp] theorem State.poke_timer (k : Nat) (v : Byte) : (s.poke k v).timer = s.timer := rfl
@[simp] theorem State.poke_ppu (k : Nat) (v : Byte) : (s.poke k v).ppu = s.ppu := rfl
@[simp] theorem State.poke_mbc (k : Nat) (v : Byte) : (s.poke k v).mbc = s.mbc := rfl
@[simp] theorem State.poke_bootEnabled (k : Nat) (v : Byte) : (s.poke k v).bootEnabled = s.bootEnabled := rfl
@[simp] theorem State.poke_joypad (k : Nat) (v : Byte) : (s.poke k v).joypad = s.joypad := rfl
@[simp] theorem State.poke_serial (k : Nat) (v : Byte) : (s.poke k v).serial = s.serial := rfl
@[simp] theorem State.poke_mem (k : Nat) (v : Byte) : (s.poke k v).mem = Memory.set s.mem k v := rfl
@[simp] theorem State.poke_inputs (k : Nat) (v : Byte) : (s.poke k v).inputs = s.inputs := rfl

end Sys2Proof.Machine
end

