-- ==== Sys2Proof/Laws/Memory.lean ====
section
/-! SUPPORT. What a read of a stored byte gives, and that every memory operation keeps the canonical form. -/

namespace Sys2Proof.Machine

theorem Memory.get_below {low : Nat} {m : Memory} (h : Memory.wfFrom low m = true) {k : Nat} (hk : k < low) :
    Memory.get m k = unlisted := by
  cases m with
  | nil => rfl
  | cons p m =>
    obtain ⟨a, b⟩ := p
    simp only [Memory.wfFrom, Bool.and_eq_true, decide_eq_true_eq] at h
    have : k < a := by omega
    simp [Memory.get, this]

theorem Memory.wfFrom_mono {low low' : Nat} {m : Memory} (h : Memory.wfFrom low m = true) (hl : low' ≤ low) :
    Memory.wfFrom low' m = true := by
  cases m with
  | nil => rfl
  | cons p m =>
    obtain ⟨a, b⟩ := p
    simp only [Memory.wfFrom, Bool.and_eq_true, decide_eq_true_eq] at h ⊢
    exact ⟨⟨by omega, h.1.2⟩, h.2⟩

theorem Memory.set_wfFrom {low : Nat} {m : Memory} (h : Memory.wfFrom low m = true) {k : Nat} (hk : low ≤ k) (v : Byte) :
    Memory.wfFrom low (Memory.set m k v) = true := by
  induction m generalizing low with
  | nil => by_cases hv : v = unlisted <;> simp [Memory.set, Memory.wfFrom, hv, hk]
  | cons p m ih =>
    obtain ⟨a, b⟩ := p
    have h' := h
    simp only [Memory.wfFrom, Bool.and_eq_true, decide_eq_true_eq] at h
    simp only [Memory.set]
    split
    · split
      · exact h'
      · rename_i h1 h2
        simp only [Memory.wfFrom, Bool.and_eq_true, decide_eq_true_eq]
        exact ⟨⟨hk, h2⟩, ⟨h1, h.1.2⟩, h.2⟩
    · split
      · split
        · exact Memory.wfFrom_mono h.2 (by omega)
        · rename_i h1 h2 h3
          simp only [Memory.wfFrom, Bool.and_eq_true, decide_eq_true_eq]
          exact ⟨⟨hk, h3⟩, h2 ▸ h.2⟩
      · simp only [Memory.wfFrom, Bool.and_eq_true, decide_eq_true_eq]
        exact ⟨h.1, ih h.2 (by omega)⟩

/-- Storing a byte keeps the canonical form. -/
theorem Memory.set_wf {m : Memory} (h : Memory.wf m = true) (k : Nat) (v : Byte) : Memory.wf (Memory.set m k v) = true :=
  Memory.set_wfFrom h (Nat.zero_le k) v

theorem Memory.get_set_from {low : Nat} {m : Memory} (h : Memory.wfFrom low m = true) (k j : Nat) (v : Byte) :
    Memory.get (Memory.set m k v) j = if j = k then v else Memory.get m j := by
  induction m generalizing low with
  | nil =>
    by_cases hv : v = unlisted
    · by_cases hj : j = k <;> simp [Memory.set, Memory.get, hv, hj]
    · by_cases hj : j = k <;> simp [Memory.set, Memory.get, hv, hj]
  | cons p m ih =>
    obtain ⟨a, b⟩ := p
    simp only [Memory.wfFrom, Bool.and_eq_true, decide_eq_true_eq] at h
    have hb := fun {n : Nat} (hn : n < a + 1) => Memory.get_below h.2 hn
    have ih := ih h.2
    simp only [Memory.set]
    by_cases h1 : k < a
    · rw [if_pos h1]
      by_cases hv : v = unlisted
      · rw [if_pos hv]
        by_cases hj : j = k
        · subst hj; simp [Memory.get, h1, hv]
        · rw [if_neg hj]
      · rw [if_neg hv]
        by_cases hj : j = k
        · subst hj; simp [Memory.get]
        · rw [if_neg hj]
          by_cases hlt : j < k
          · have : j < a := by omega
            simp [Memory.get, hlt, this]
          · simp [Memory.get, hlt, hj]
    · rw [if_neg h1]
      by_cases h2 : k = a
      · rw [if_pos h2]
        by_cases hv : v = unlisted
        · rw [if_pos hv]
          by_cases hj : j = k
          · subst hj; rw [if_pos rfl, hb (by omega), hv]
          · rw [if_neg hj]
            by_cases hlt : j < a
            · rw [hb (by omega)]; simp [Memory.get, hlt]
            · have : j ≠ a := by omega
              simp [Memory.get, hlt, this]
        · rw [if_neg hv]
          by_cases hj : j = k
          · subst hj; simp [Memory.get]
          · rw [if_neg hj]
            by_cases hlt : j < k
            · have : j < a := by omega
              simp [Memory.get, hlt, this]
            · have h3 : ¬ j < a := by omega
              have h4 : j ≠ a := by omega
              simp [Memory.get, hlt, hj, h3, h4]
      · rw [if_neg h2]
        simp only [Memory.get]
        by_cases hlt : j < a
        · have : j ≠ k := by omega
          simp [hlt, this]
        · by_cases hj : j = a
          · subst hj
            have : j ≠ k := by omega
            simp [this]
          · simp only [hlt, hj, if_false]; exact ih

/-- A read after a write to the same key gives the byte written. -/
theorem Memory.get_set_same {m : Memory} (h : Memory.wf m = true) (k : Nat) (v : Byte) :
    Memory.get (Memory.set m k v) k = v := by rw [Memory.get_set_from h]; simp

/-- A write leaves every other key alone. -/
theorem Memory.get_set_other {m : Memory} (h : Memory.wf m = true) {k j : Nat} (hj : j ≠ k) (v : Byte) :
    Memory.get (Memory.set m k v) j = Memory.get m j := by rw [Memory.get_set_from h]; simp [hj]

/-- Storing lists no key but the one stored to. -/
theorem Memory.mem_set {m : Memory} {k : Nat} {v : Byte} {p : Host.Cell} (hp : p ∈ Memory.set m k v) :
    p ∈ m ∨ p = (k, v) := by
  induction m with
  | nil =>
    simp only [Memory.set] at hp
    split at hp <;> simp_all
  | cons q m ih =>
    obtain ⟨a, b⟩ := q
    simp only [Memory.set] at hp
    split at hp
    · split at hp
      · exact .inl hp
      · exact (List.mem_cons.mp hp).elim .inr .inl
    · split at hp
      · split at hp
        · exact .inl (List.mem_cons_of_mem _ hp)
        · exact (List.mem_cons.mp hp).elim .inr (fun h => .inl (List.mem_cons_of_mem _ h))
      · simp only [List.mem_cons] at hp ⊢
        rcases hp with hp | hp
        · exact .inl (.inl hp)
        · rcases ih hp with h | h
          · exact .inl (.inr h)
          · exact .inr h

/-- Canonical memories that read alike are equal. -/
theorem Memory.ext_wf {low : Nat} {m m' : Memory} (h : Memory.wfFrom low m = true) (h' : Memory.wfFrom low m' = true)
    (hg : ∀ k, Memory.get m k = Memory.get m' k) : m = m' := by
  induction m generalizing low m' with
  | nil =>
    cases m' with
    | nil => rfl
    | cons p m' =>
      obtain ⟨a, b⟩ := p
      simp only [Memory.wfFrom, Bool.and_eq_true, decide_eq_true_eq] at h'
      have := hg a
      simp only [Memory.get, lt_irrefl, if_false, if_true] at this
      exact absurd this.symm h'.1.2
  | cons p m ih =>
    obtain ⟨a, b⟩ := p
    have h0 := h
    simp only [Memory.wfFrom, Bool.and_eq_true, decide_eq_true_eq] at h
    have ga : Memory.get ((a, b) :: m) a = b := by simp [Memory.get]
    cases m' with
    | nil => exact absurd (ga.symm.trans (hg a)) h.1.2
    | cons q m' =>
      obtain ⟨a', b'⟩ := q
      have h0' := h'
      simp only [Memory.wfFrom, Bool.and_eq_true, decide_eq_true_eq] at h'
      have ga' : Memory.get ((a', b') :: m') a' = b' := by simp [Memory.get]
      have haa : a = a' := by
        rcases Nat.lt_trichotomy a a' with hlt | he | hlt
        · have := hg a
          rw [ga] at this
          simp only [Memory.get, hlt, if_true] at this
          exact absurd this h.1.2
        · exact he
        · have := hg a'
          rw [ga'] at this
          simp only [Memory.get, hlt, if_true] at this
          exact absurd this.symm h'.1.2
      subst haa
      have hbb : b = b' := by rw [← ga, ← ga', hg]
      subst hbb
      have : m = m' := ih h.2 h'.2 (fun k => by
        by_cases hk : k < a + 1
        · rw [Memory.get_below h.2 hk, Memory.get_below h'.2 hk]
        · have := hg k
          have h1 : ¬ k < a := by omega
          have h2 : k ≠ a := by omega
          simpa only [Memory.get, h1, h2, if_false] using this)
      rw [this]

/-- A store of the storage arrays, read back. -/
theorem State.peek_poke {s : State} (h : Memory.wf s.mem = true) (k j : Nat) (v : Byte) :
    (s.poke k v).peek j = if j = k then v else s.peek j := Memory.get_set_from h k j v

theorem State.poke_wf {s : State} (h : Memory.wf s.mem = true) (k : Nat) (v : Byte) : Memory.wf (s.poke k v).mem = true :=
  Memory.set_wf h k v

/-- The reset memory is in the canonical form. -/
theorem State.reset_memory_wf : Memory.wf State.reset.mem = true := rfl

end Sys2Proof.Machine
end

