-- ==== Sys2Proof/Laws/Bus.lean ====
section
/-! SUPPORT. The Bus, said once: which mapping an address selects, what a read and a write of it do, what no write changes, and that
every Bus operation keeps the canonical form of memory. -/

namespace Sys2Proof.Machine

/-! ### Results -/

theorem Res.bind_eq_ok {α β : Type} {x : Res α} {f : α → Res β} {r : β} :
    (x >>= f) = .ok r ↔ ∃ a, x = .ok a ∧ f a = .ok r := by
  cases x <;> simp [bind, Except.bind]

@[simp] theorem Res.ok_bind {α β : Type} (a : α) (f : α → Res β) : ((.ok a : Res α) >>= f) = f a := rfl

@[simp] theorem Res.error_bind {α β : Type} (r : Refusal) (f : α → Res β) : ((.error r : Res α) >>= f) = .error r := rfl

@[simp] theorem Res.pure_eq {α : Type} (a : α) : (pure a : Res α) = .ok a := rfl

theorem Res.bind_eq_error {α β : Type} {x : Res α} {f : α → Res β} {r : Refusal} :
    (x >>= f) = .error r ↔ x = .error r ∨ ∃ a, x = .ok a ∧ f a = .error r := by
  cases x <;> simp [bind, Except.bind]

@[simp] theorem outcome_ok (s : State) : outcome (.ok s) = .next s := rfl

@[simp] theorem outcome_error (r : Refusal) : outcome (.error r) = .refused r := rfl

theorem outcome_eq_next {x : Res State} {t : State} : outcome x = .next t ↔ x = .ok t := by cases x <;> simp [outcome]

theorem outcome_eq_refused {x : Res State} {r : Refusal} : outcome x = .refused r ↔ x = .error r := by
  cases x <;> simp [outcome]

theorem outcome_ne_fault {x : Res State} {f : Fault} : outcome x ≠ .fault f := by cases x <;> simp [outcome]

/-! ### The selected mapping -/

theorem find_cons {α : Type} (p : α → Bool) (x : α) (l : List α) : (x :: l).find? p = if p x then some x else l.find? p := by
  simp only [List.find?]; cases p x <;> rfl
/-- The mapping list of 20_memory.md R30 as a chain of upper bounds. -/
theorem selectMapping_eq (s : State) (a : Word) :
    selectMapping s a =
      if a.toNat ≤ 0xFF ∧ s.bootEnabled = true then some ⟨0x0000, 0x00FF, .bootRom⟩
      else if a.toNat ≤ 0x7FFF then some ⟨0x0000, 0x7FFF, .mbc1⟩
      else if a.toNat ≤ 0x9FFF then some ⟨0x8000, 0x9FFF, .vram⟩
      else if a.toNat ≤ 0xBFFF then some ⟨0xA000, 0xBFFF, .mbc1⟩
      else if a.toNat ≤ 0xDFFF then some ⟨0xC000, 0xDFFF, .wram⟩
      else if a.toNat ≤ 0xFDFF then some ⟨0xE000, 0xFDFF, .wram⟩
      else if a.toNat ≤ 0xFE9F then some ⟨0xFE00, 0xFE9F, .oam⟩
      else if a.toNat ≤ 0xFEFF then none
      else if a.toNat = 0xFF00 then some ⟨0xFF00, 0xFF00, .joypad⟩
      else if a.toNat ≤ 0xFF02 then some ⟨0xFF01, 0xFF02, .serial⟩
      else if a.toNat = 0xFF03 then none
      else if a.toNat ≤ 0xFF07 then some ⟨0xFF04, 0xFF07, .timer⟩
      else if a.toNat ≤ 0xFF0E then none
      else if a.toNat = 0xFF0F then some ⟨0xFF0F, 0xFF0F, .irqFlags⟩
      else if a.toNat ≤ 0xFF3F then none
      else if a.toNat ≤ 0xFF4B then some ⟨0xFF40, 0xFF4B, .ppu⟩
      else if a.toNat ≤ 0xFF4F then none
      else if a.toNat = 0xFF50 then some ⟨0xFF50, 0xFF50, .bootSwitch⟩
      else if a.toNat ≤ 0xFF7F then none
      else if a.toNat ≤ 0xFFFE then some ⟨0xFF80, 0xFFFE, .hram⟩
      else some ⟨0xFFFF, 0xFFFF, .irqEnable⟩ := by
  have hlt := a.isLt
  simp only [selectMapping, busMap, find_cons, regionEnabled, List.find?_nil, Bool.and_true, Bool.and_eq_true, decide_eq_true_eq]
  generalize a.toNat = n at hlt ⊢
  have h : (n ≤ 0xFF ∧ s.bootEnabled = true) ∨ (n ≤ 0xFF ∧ s.bootEnabled = false) ∨ (0xFF < n ∧ n ≤ 0x7FFF) ∨ (0x7FFF < n ∧ n ≤ 0x9FFF) ∨
      (0x9FFF < n ∧ n ≤ 0xBFFF) ∨ (0xBFFF < n ∧ n ≤ 0xDFFF) ∨ (0xDFFF < n ∧ n ≤ 0xFDFF) ∨ (0xFDFF < n ∧ n ≤ 0xFE9F) ∨
      (0xFE9F < n ∧ n ≤ 0xFEFF) ∨ n = 0xFF00 ∨ (0xFF00 < n ∧ n ≤ 0xFF02) ∨ n = 0xFF03 ∨ (0xFF03 < n ∧ n ≤ 0xFF07) ∨
      (0xFF07 < n ∧ n ≤ 0xFF0E) ∨ n = 0xFF0F ∨ (0xFF0F < n ∧ n ≤ 0xFF3F) ∨ (0xFF3F < n ∧ n ≤ 0xFF4B) ∨ (0xFF4B < n ∧ n ≤ 0xFF4F) ∨
      n = 0xFF50 ∨ (0xFF50 < n ∧ n ≤ 0xFF7F) ∨ (0xFF7F < n ∧ n ≤ 0xFFFE) ∨ n = 0xFFFF := by
    cases s.bootEnabled <;> simp only [and_true, and_false, reduceCtorEq] <;> omega
  rcases h with ⟨h, hb⟩ | ⟨h, hb⟩ | h
  · simp [h, hb]
  · simp only [hb]
    simp (disch := omega) only [if_pos]
    simp
  rcases h with h | h | h | h | h | h | h | h | h | h | h | h | h | h | h | h | h | h | h | h
  all_goals simp (disch := omega) only [if_pos, if_neg]

/-! ### The selected mapping, range by range -/

section
variable (s : State) {a : Word}

theorem selectMapping_bootRom (h : inRange 0x0000 0x00FF a) (hb : s.bootEnabled = true) :
    selectMapping s a = some ⟨0x0000, 0x00FF, .bootRom⟩ := by
  rw [selectMapping_eq, if_pos ⟨h.2, hb⟩]

theorem selectMapping_rom (h : inRange 0x0000 0x7FFF a) (hb : s.bootEnabled = true → 0x0100 ≤ a.toNat) :
    selectMapping s a = some ⟨0x0000, 0x7FFF, .mbc1⟩ := by
  rw [selectMapping_eq, if_neg (fun hc => absurd (hb hc.2) (by omega)), if_pos h.2]

theorem selectMapping_vram (h : inRange 0x8000 0x9FFF a) : selectMapping s a = some ⟨0x8000, 0x9FFF, .vram⟩ := by
  rw [selectMapping_eq]; simp (disch := omega) only [if_pos, if_neg]

theorem selectMapping_cartRam (h : inRange 0xA000 0xBFFF a) : selectMapping s a = some ⟨0xA000, 0xBFFF, .mbc1⟩ := by
  rw [selectMapping_eq]; simp (disch := omega) only [if_pos, if_neg]

theorem selectMapping_wram (h : inRange 0xC000 0xDFFF a) : selectMapping s a = some ⟨0xC000, 0xDFFF, .wram⟩ := by
  rw [selectMapping_eq]; simp (disch := omega) only [if_pos, if_neg]

theorem selectMapping_mirror (h : inRange 0xE000 0xFDFF a) : selectMapping s a = some ⟨0xE000, 0xFDFF, .wram⟩ := by
  rw [selectMapping_eq]; simp (disch := omega) only [if_pos, if_neg]

theorem selectMapping_oam (h : inRange 0xFE00 0xFE9F a) : selectMapping s a = some ⟨0xFE00, 0xFE9F, .oam⟩ := by
  rw [selectMapping_eq]; simp (disch := omega) only [if_pos, if_neg]

theorem selectMapping_joypad (h : inRange 0xFF00 0xFF00 a) : selectMapping s a = some ⟨0xFF00, 0xFF00, .joypad⟩ := by
  rw [selectMapping_eq]; simp (disch := omega) only [if_pos, if_neg]

theorem selectMapping_serial (h : inRange 0xFF01 0xFF02 a) : selectMapping s a = some ⟨0xFF01, 0xFF02, .serial⟩ := by
  rw [selectMapping_eq]; simp (disch := omega) only [if_pos, if_neg]

theorem selectMapping_timer (h : inRange 0xFF04 0xFF07 a) : selectMapping s a = some ⟨0xFF04, 0xFF07, .timer⟩ := by
  rw [selectMapping_eq]; simp (disch := omega) only [if_pos, if_neg]

theorem selectMapping_irqFlags (h : inRange 0xFF0F 0xFF0F a) : selectMapping s a = some ⟨0xFF0F, 0xFF0F, .irqFlags⟩ := by
  rw [selectMapping_eq]; simp (disch := omega) only [if_pos, if_neg]

theorem selectMapping_ppu (h : inRange 0xFF40 0xFF4B a) : selectMapping s a = some ⟨0xFF40, 0xFF4B, .ppu⟩ := by
  rw [selectMapping_eq]; simp (disch := omega) only [if_pos, if_neg]

theorem selectMapping_bootSwitch (h : inRange 0xFF50 0xFF50 a) : selectMapping s a = some ⟨0xFF50, 0xFF50, .bootSwitch⟩ := by
  rw [selectMapping_eq]; simp (disch := omega) only [if_pos, if_neg]

theorem selectMapping_hram (h : inRange 0xFF80 0xFFFE a) : selectMapping s a = some ⟨0xFF80, 0xFFFE, .hram⟩ := by
  rw [selectMapping_eq]; simp (disch := omega) only [if_pos, if_neg]

theorem selectMapping_irqEnable (h : inRange 0xFFFF 0xFFFF a) : selectMapping s a = some ⟨0xFFFF, 0xFFFF, .irqEnable⟩ := by
  rw [selectMapping_eq]; simp (disch := omega) only [if_neg]

theorem selectMapping_unmapped (h : unmapped a) : selectMapping s a = none := by
  rw [selectMapping_eq]
  rcases h with h | rfl | h | h | h | h
  · simp (disch := omega) only [if_pos, if_neg]
  · rfl
  all_goals simp (disch := omega) only [if_pos, if_neg]

end

/-! ### MBC1's windows -/

theorem mbcWindow_eq {a : Word} {n : Nat} (h : inRange (n * 0x2000) (n * 0x2000 + 0x1FFF) a) : mbcWindow a = n := by
  unfold mbcWindow; omega

/-- Adding an offset to the base of a region gives the address itself as the key, but for the mirror. -/
theorem regionKey_eq {base n : Nat} (h : base ≤ n) : base + (n - base) = n := by omega

/-! ### What a write leaves alone -/

/-- The part of the machine that a Bus access looks at besides the storage arrays and the device registers. -/
@[simp] theorem busGet_withCpu (s : State) (c : Cpu) (a : Word) : busGet { s with cpu := c } a = busGet s a := rfl

theorem selectMapping_some {s : State} {a : Word} {m : Mapping} (h : selectMapping s a = some m) :
    m ∈ busMap ∧ m.first ≤ a.toNat ∧ a.toNat ≤ m.last ∧ (m.region = .bootRom → s.bootEnabled = true) := by
  have h1 := List.mem_of_find?_eq_some h
  have h2 := List.find?_some h
  simp only [Bool.and_eq_true, decide_eq_true_eq] at h2
  exact ⟨h1, h2.1.1, h2.1.2, fun hr => by have := h2.2; rw [hr] at this; exact this⟩

theorem dmaCopy_frame {page : Byte} {count i : Nat} {s t : State} (h : dmaCopy page count i s = .ok t) :
    t = { s with mem := t.mem } := by
  induction count generalizing i s with
  | zero => simp only [dmaCopy, Except.ok.injEq] at h; subst h; rfl
  | succ n ih =>
    simp only [dmaCopy, Res.bind_eq_ok] at h
    obtain ⟨v, -, h⟩ := h
    have := ih h
    rw [this]; rfl

theorem dmaCopy_wf {page : Byte} {count i : Nat} {s t : State} (hw : Memory.wf s.mem = true)
    (h : dmaCopy page count i s = .ok t) : Memory.wf t.mem = true := by
  induction count generalizing i s with
  | zero => simp only [dmaCopy, Except.ok.injEq] at h; subst h; exact hw
  | succ n ih =>
    simp only [dmaCopy, Res.bind_eq_ok] at h
    obtain ⟨v, -, h⟩ := h
    exact ih (State.poke_wf hw _ _) h

/-- The copy changes no key outside the part of `OAM` it fills. -/
theorem dmaCopy_other {page : Byte} {count i : Nat} {s t : State} (hw : Memory.wf s.mem = true)
    (h : dmaCopy page count i s = .ok t) {k : Nat} (hk : ¬ (oamBase + i ≤ k ∧ k < oamBase + i + count)) : t.peek k = s.peek k := by
  induction count generalizing i s with
  | zero => simp only [dmaCopy, Except.ok.injEq] at h; subst h; rfl
  | succ n ih =>
    simp only [dmaCopy, Res.bind_eq_ok] at h
    obtain ⟨v, -, h⟩ := h
    rw [ih (State.poke_wf hw _ _) h (by omega), State.peek_poke hw, if_neg (by omega)]

theorem isStorage_iff {c : Config} {k : Nat} : isStorage c k = true ↔
    (0x8000 ≤ k ∧ k ≤ 0x9FFF) ∨ (0xC000 ≤ k ∧ k ≤ 0xDFFF) ∨ (0xFE00 ≤ k ∧ k ≤ 0xFE9F) ∨ (0xFF80 ≤ k ∧ k ≤ 0xFFFE) ∨
    (cramBase ≤ k ∧ k < cramBase + ramBytes c) ∨ (bootBase ≤ k ∧ k < bootBase + 0x100) ∨
    (romBase ≤ k ∧ k < romBase + romBanks c * 0x4000) := by
  unfold isStorage
  generalize 0x8000 = n1
  simp only [Bool.or_eq_true, Bool.and_eq_true, decide_eq_true_eq, or_assoc]

/-- What a write of MBC1 can do. -/
theorem mbcSet_cases {s t : State} {a : Word} {v : Byte} (h : mbcSet s a v = .ok t) :
    t = s ∨ (mbcWindow a ≤ 3 ∧ ∃ m, t = { s with mbc := m } ∧
        (m = { s.mbc with ramEnabled := decide (v &&& 0x0F = 0x0A) } ∨ m = { s.mbc with romBankLo := v.extractLsb' 0 5 } ∨
          m = mbcSetUpper s.mbc v ∨ m = mbcSetMode s.mbc v)) ∨
    (mbcWindow a = 5 ∧ s.mbc.ramEnabled = true ∧ cramIndex s.mbc a < ramBytes s.cfg ∧
      t = s.poke (cramBase + cramIndex s.mbc a) v) := by
  unfold mbcSet at h
  split at h
  · rename_i hw; exact .inr (.inl ⟨by omega, _, (Except.ok.inj h).symm, .inl rfl⟩)
  · rename_i hw; exact .inr (.inl ⟨by omega, _, (Except.ok.inj h).symm, .inr (.inl rfl)⟩)
  · rename_i hw; exact .inr (.inl ⟨by omega, _, (Except.ok.inj h).symm, .inr (.inr (.inl rfl))⟩)
  · rename_i hw; exact .inr (.inl ⟨by omega, _, (Except.ok.inj h).symm, .inr (.inr (.inr rfl))⟩)
  · rename_i h5
    split at h
    · rename_i he
      simp only at h
      split at h
      · rename_i hi
        exact .inr (.inr ⟨h5, he, hi, (Except.ok.inj h).symm⟩)
      · cases h
    · exact .inl (Except.ok.inj h).symm
  · exact .inl (Except.ok.inj h).symm

/-- What one Bus write of `v` at `a` can do: everything but the storage arrays and one device's registers is unchanged. -/
theorem busSet_cases {s t : State} {a : Word} {v : Byte} (h : busSet s a v = .ok t) :
    t = s ∨ (a.toNat ≤ 0x7FFF ∧ ∃ m, t = { s with mbc := m } ∧
        (m = { s.mbc with ramEnabled := decide (v &&& 0x0F = 0x0A) } ∨ m = { s.mbc with romBankLo := v.extractLsb' 0 5 } ∨
          m = mbcSetUpper s.mbc v ∨ m = mbcSetMode s.mbc v)) ∨
    (∃ k, storeKey s a = some k ∧ isStorage s.cfg k = true ∧ k < bootBase ∧ t = s.poke k v) ∨
    t = { s with joypad := joypadSet s.joypad v } ∨
    (∃ x, t = { s with serial := x }) ∨
    (∃ off, t = { s with timer := timerSet s.timer v off }) ∨
    t = { s with irq := { s.irq with flags := v } } ∨
    t = { s with irq := { s.irq with enable := v } } ∨
    (∃ off, off ≠ 6 ∧ t = { s with ppu := ppuSet s.ppu v off }) ∨
    (a = 0xFF46 ∧ dmaCopy v (dmaBytes s.cfg) 0 { s with ppu := { s.ppu with dmaW := v } } = .ok t) ∨
    (a = 0xFF50 ∧ t = { s with bootEnabled := false }) := by
  unfold busSet at h
  have hk : storeKey s a = (match selectMapping s a with
    | none => none
    | some m =>
      match m.region with
      | .vram | .wram | .oam | .hram => (regionBlock m.region).map fun base => base + (a.toNat - m.first)
      | .mbc1 => if mbcWindow a = 5 ∧ s.mbc.ramEnabled = true then some (cramBase + cramIndex s.mbc a) else none
      | .bootRom | .joypad | .serial | .timer | .irqFlags | .ppu | .bootSwitch | .irqEnable => none) := rfl
  cases hm : selectMapping s a with
  | none => rw [hm] at h; exact .inl (Except.ok.inj h).symm
  | some m =>
    rw [hm] at h hk
    obtain ⟨hmem, hf, hl, -⟩ := selectMapping_some hm
    have hram : ramBytes s.cfg ≤ 0x8000 := by unfold ramBytes; split <;> omega
    have hmbc : m.region = .mbc1 → mbcSet s a v = .ok t → t = s ∨ (a.toNat ≤ 0x7FFF ∧ ∃ m, t = { s with mbc := m } ∧
        (m = { s.mbc with ramEnabled := decide (v &&& 0x0F = 0x0A) } ∨ m = { s.mbc with romBankLo := v.extractLsb' 0 5 } ∨
          m = mbcSetUpper s.mbc v ∨ m = mbcSetMode s.mbc v)) ∨
        (∃ k, storeKey s a = some k ∧ isStorage s.cfg k = true ∧ k < bootBase ∧ t = s.poke k v) := by
      intro hr h
      rcases mbcSet_cases h with h | h | ⟨h5, he, hi, h⟩
      · exact .inl h
      · exact .inr (.inl ⟨by have := h.1; unfold mbcWindow at this; omega, h.2⟩)
      · refine .inr (.inr ⟨cramBase + cramIndex s.mbc a, ?_, ?_, ?_, h⟩)
        · rw [hk]; simp only [hr]; rw [if_pos ⟨h5, he⟩]
        · exact isStorage_iff.mpr (by omega)
        · have h1 : cramBase = 0x10000 := rfl
          have h2 : bootBase = 0x20000 := rfl
          omega
    simp only [busMap, List.mem_cons, List.not_mem_nil, or_false] at hmem
    rcases hmem with rfl | rfl | rfl | rfl | rfl | rfl | rfl | rfl | rfl | rfl | rfl | rfl | rfl | rfl | rfl <;>
      simp only [regionSet, ppuRegionSet, Except.ok.injEq] at h hf hl
    · exact .inl h.symm
    · rcases hmbc rfl h with h | h | h
      · exact .inl h
      · exact .inr (.inl h)
      · exact .inr (.inr (.inl h))
    · have hb : vramBase = 0x8000 := rfl
      have hb' : bootBase = 0x20000 := rfl
      exact .inr (.inr (.inl ⟨vramBase + (a.toNat - 0x8000), hk, isStorage_iff.mpr (by omega), by omega, h.symm⟩))
    · rcases hmbc rfl h with h | h | h
      · exact .inl h
      · exact .inr (.inl h)
      · exact .inr (.inr (.inl h))
    · have hb : wramBase = 0xC000 := rfl
      have hb' : bootBase = 0x20000 := rfl
      exact .inr (.inr (.inl ⟨wramBase + (a.toNat - 0xC000), hk, isStorage_iff.mpr (by omega), by omega, h.symm⟩))
    · have hb : wramBase = 0xC000 := rfl
      have hb' : bootBase = 0x20000 := rfl
      exact .inr (.inr (.inl ⟨wramBase + (a.toNat - 0xE000), hk, isStorage_iff.mpr (by omega), by omega, h.symm⟩))
    · have hb : oamBase = 0xFE00 := rfl
      have hb' : bootBase = 0x20000 := rfl
      exact .inr (.inr (.inl ⟨oamBase + (a.toNat - 0xFE00), hk, isStorage_iff.mpr (by omega), by omega, h.symm⟩))
    · exact .inr (.inr (.inr (.inl h.symm)))
    · exact .inr (.inr (.inr (.inr (.inl ⟨_, h.symm⟩))))
    · exact .inr (.inr (.inr (.inr (.inr (.inl ⟨_, h.symm⟩)))))
    · exact .inr (.inr (.inr (.inr (.inr (.inr (.inl h.symm))))))
    · split at h
      · rename_i h6
        refine .inr (.inr (.inr (.inr (.inr (.inr (.inr (.inr (.inr (.inl ⟨?_, ?_⟩)))))))))
        · exact BitVec.eq_of_toNat_eq (show a.toNat = 0xFF46 by omega)
        · rw [h6] at h; exact h
      · rename_i h6
        exact .inr (.inr (.inr (.inr (.inr (.inr (.inr (.inr (.inl ⟨_, h6, (Except.ok.inj h).symm⟩))))))))
    · exact .inr (.inr (.inr (.inr (.inr (.inr (.inr (.inr (.inr (.inr
        ⟨BitVec.eq_of_toNat_eq (show a.toNat = 0xFF50 by omega), h.symm⟩)))))))))
    · have hb : hramBase = 0xFF80 := rfl
      have hb' : bootBase = 0x20000 := rfl
      exact .inr (.inr (.inl ⟨hramBase + (a.toNat - 0xFF80), hk, isStorage_iff.mpr (by omega), by omega, h.symm⟩))
    · exact .inr (.inr (.inr (.inr (.inr (.inr (.inr (.inl h.symm)))))))

/-- A Bus write keeps the canonical form of memory. -/
theorem busSet_wf {s t : State} {a : Word} {v : Byte} (hw : Memory.wf s.mem = true) (h : busSet s a v = .ok t) :
    Memory.wf t.mem = true := by
  rcases busSet_cases h with rfl | ⟨-, m, rfl, -⟩ | ⟨k, -, -, -, rfl⟩ | rfl | ⟨x, rfl⟩ | ⟨o, rfl⟩ | rfl | rfl | ⟨o, -, rfl⟩ | ⟨-, h⟩ | ⟨-, rfl⟩
  all_goals first | exact hw | exact State.poke_wf hw _ _ | exact dmaCopy_wf (s := { s with ppu := { s.ppu with dmaW := v } }) hw h

/-- A Bus write changes no CPU register, no parameter and no pending host event. -/
theorem busSet_frame {s t : State} {a : Word} {v : Byte} (h : busSet s a v = .ok t) :
    t.cpu = s.cpu ∧ t.cfg = s.cfg ∧ t.inputs = s.inputs := by
  rcases busSet_cases h with rfl | ⟨-, m, rfl, -⟩ | ⟨k, -, -, -, rfl⟩ | rfl | ⟨x, rfl⟩ | ⟨o, rfl⟩ | rfl | rfl | ⟨o, -, rfl⟩ | ⟨-, h⟩ | ⟨-, rfl⟩
  all_goals first | exact ⟨rfl, rfl, rfl⟩ | (rw [dmaCopy_frame h]; exact ⟨rfl, rfl, rfl⟩)

/-- A Bus write changes no storage byte but the one at `storeKey`, a write to `DMA` apart. -/
theorem busSet_other {s t : State} {a : Word} {v : Byte} (hw : Memory.wf s.mem = true) (h : busSet s a v = .ok t)
    (ha : a ≠ 0xFF46) {k : Nat} (hk : storeKey s a ≠ some k) : t.peek k = s.peek k := by
  rcases busSet_cases h with rfl | ⟨-, m, rfl, -⟩ | ⟨j, hj, -, -, rfl⟩ | rfl | ⟨x, rfl⟩ | ⟨o, rfl⟩ | rfl | rfl | ⟨o, -, rfl⟩ | ⟨h', -⟩ | ⟨-, rfl⟩
  all_goals first
    | rfl
    | exact absurd h' ha
    | (rw [State.peek_poke hw, if_neg (fun e => hk (by rw [hj, e]))])

/-- No Bus write changes a key of `BOOT_ROM` or `ROM`. -/
theorem busSet_rom {s t : State} {a : Word} {v : Byte} (hw : Memory.wf s.mem = true) (h : busSet s a v = .ok t)
    {k : Nat} (hk : bootBase ≤ k) : t.peek k = s.peek k := by
  rcases busSet_cases h with rfl | ⟨-, m, rfl, -⟩ | ⟨j, -, -, hj, rfl⟩ | rfl | ⟨x, rfl⟩ | ⟨o, rfl⟩ | rfl | rfl | ⟨o, -, rfl⟩ | ⟨-, h'⟩ | ⟨-, rfl⟩
  all_goals first
    | rfl
    | (rw [State.peek_poke hw, if_neg (by omega)])
    | (have hd : dmaBytes s.cfg ≤ 0xA0 := by unfold dmaBytes; split <;> omega
       have hn : ¬ (oamBase + 0 ≤ k ∧ k < oamBase + 0 + dmaBytes s.cfg) := by simp only [oamBase, bootBase] at *; omega
       exact dmaCopy_other (s := { s with ppu := { s.ppu with dmaW := v } }) hw h' hn)

/-- Nothing written through the Bus enables the boot ROM. -/
theorem busSet_bootEnabled {s t : State} {a : Word} {v : Byte} (h : busSet s a v = .ok t) (hb : t.bootEnabled = true) :
    s.bootEnabled = true := by
  rcases busSet_cases h with rfl | ⟨-, m, rfl, -⟩ | ⟨j, -, -, hj, rfl⟩ | rfl | ⟨x, rfl⟩ | ⟨o, rfl⟩ | rfl | rfl | ⟨o, -, rfl⟩ | ⟨-, h'⟩ | ⟨-, rfl⟩
  all_goals first | exact hb | (rw [dmaCopy_frame h'] at hb; exact hb) | cases hb

/-! ### The key a write stores to -/

/-- The key depends on the latches of MBC1 and on the boot switch alone. -/
theorem storeKey_congr {s u : State} (h1 : u.mbc = s.mbc) (h2 : u.bootEnabled = s.bootEnabled) (a : Word) :
    storeKey u a = storeKey s a := by
  have : selectMapping u a = selectMapping s a := by rw [selectMapping_eq, selectMapping_eq, h2]
  unfold storeKey
  rw [this, h1]

/-- A write of the ROM windows stores to no key. -/
theorem storeKey_rom (s : State) {a : Word} (h : a.toNat ≤ 0x7FFF) : storeKey s a = none := by
  have hw : mbcWindow a ≠ 5 := by unfold mbcWindow; omega
  unfold storeKey
  by_cases hb : a.toNat ≤ 0xFF ∧ s.bootEnabled = true
  · rw [selectMapping_bootRom s ⟨Nat.zero_le _, hb.1⟩ hb.2]
  · rw [selectMapping_rom s ⟨Nat.zero_le _, h⟩ (fun e => by by_contra hc; exact hb ⟨by omega, e⟩)]
    show (if mbcWindow a = 5 ∧ _ then _ else none) = none
    exact if_neg (fun hc => hw hc.1)

/-- A write does not move the key of the next address: the two halves of a 16-bit store are keyed in the state before it. -/
theorem storeKey_next {s u : State} {a : Word} {v : Byte} (h : busSet s a v = .ok u) : storeKey u (a + 1) = storeKey s (a + 1) := by
  rcases busSet_cases h with rfl | ⟨ha, m, rfl, -⟩ | ⟨j, -, -, -, rfl⟩ | rfl | ⟨x, rfl⟩ | ⟨o, rfl⟩ | rfl | rfl | ⟨o, -, rfl⟩ | ⟨-, hd⟩ | ⟨rfl, rfl⟩
  case inr.inl =>
    by_cases h8 : (a + 1).toNat ≤ 0x7FFF
    · rw [storeKey_rom _ h8, storeKey_rom _ h8]
    · have : inRange 0x8000 0x9FFF (a + 1) := ⟨by omega, by bv_omega⟩
      unfold storeKey
      rw [selectMapping_vram s this, selectMapping_vram _ this]
  case inr.inr.inr.inr.inr.inr.inr.inr.inr.inr =>
    have : unmapped (0xFF50 + 1) := by decide
    unfold storeKey
    rw [selectMapping_unmapped s this, selectMapping_unmapped _ this]
  all_goals first
    | exact storeKey_congr rfl rfl _
    | (have := dmaCopy_frame hd; exact storeKey_congr (by rw [this]) (by rw [this]) _)

end Sys2Proof.Machine
end

