-- ==== Sys2Proof/Laws/Exec.lean ====
section
/-! SUPPORT. The meanings by form: `exec` of an instruction is `execForm` of its form, so that what is proved once about a form
holds of every instruction that has it. -/

namespace Sys2Proof.Machine

/-- The operation of each form. -/
def formResult (x : Form) (s : State) : Res State :=
  match x with
  | .ld8 d src => ld8 d src s
  | .ld8n d n => ld8n d n s
  | .ldAInd rr => loadA (readR16 s rr) s
  | .ldIndA rr => storeA (readR16 s rr) s
  | .ldAAbs nn => loadA nn s
  | .ldAbsA nn => storeA nn s
  | .ldhAn n => loadA (highPage n) s
  | .ldhnA n => storeA (highPage n) s
  | .ldhAC => loadA (highPage s.cpu.c) s
  | .ldhCA => storeA (highPage s.cpu.c) s
  | .ldHLincA => storeAStep 1 s
  | .ldAHLinc => loadAStep 1 s
  | .ldHLdecA => storeAStep (-1) s
  | .ldAHLdec => loadAStep (-1) s
  | .ld16 rr nn => ld16 rr nn s
  | .ldAbsSP nn => storeSP nn s
  | .ldSPHL => ldSPHL s
  | .ldHLSPe eb => ldHLSPe eb s
  | .push rr => pushPair rr s
  | .pop rr => popPair rr s
  | .alu op src => aluR8 op src s
  | .aluN op n => aluImm op n s
  | .inc8 r => incR8 r s
  | .dec8 r => decR8 r s
  | .daa => daaA s
  | .cpl => cplA s
  | .scf => scfOp s
  | .ccf => ccfOp s
  | .addHL rr => addHL rr s
  | .inc16 rr => incR16 rr s
  | .dec16 rr => decR16 rr s
  | .addSPe eb => addSPe eb s
  | .rlca => rotA .rlc s
  | .rrca => rotA .rrc s
  | .rla => rotA .rl s
  | .rra => rotA .rr s
  | .rot op r => rotR8 op r s
  | .bit b r => bitR8 b r s
  | .res b r => resR8 b r s
  | .set b r => setR8 b r s
  | .jp nn => jump nn s
  | .jpCond cc nn => jumpIf cc nn s
  | .jpHL => jump s.hl s
  | .jr eb => jumpRel eb s
  | .jrCond cc eb => jumpRelIf cc eb s
  | .call nn => callTo nn s
  | .callCond cc nn => callIf cc nn s
  | .ret => ret s
  | .retCond cc => retIf cc s
  | .reti => returnFromInterrupt s
  | .rst y => restart y s
  | .nop => nopOp s
  | .halt => haltOp s
  | .stop => haltOp s
  | .di => imeOp false s
  | .ei => imeOp true s
  | .prefixed op2 => prefixedByFields op2 s
  | .illegal _ => .ok s

/-- The meaning of each form: its operation's result, but for the form that ends the run. -/
def execForm (x : Form) (s : State) : Host.Outcome State Fault Refusal :=
  match x with
  | .illegal op => undefinedOpcode op s
  | x => outcome (formResult x s)

/-- An instruction means what its form means. -/
theorem exec_eq_execForm (i : Instr) (s : State) : exec i s = execForm i.form s := by
  cases i <;> rfl

theorem exec_eq_next {i : Instr} {s t : State} (h : exec i s = .next t) : formResult i.form s = .ok t := by
  rw [exec_eq_execForm] at h
  unfold execForm at h
  split at h
  · simp [undefinedOpcode] at h
  · exact outcome_eq_next.mp h

/-- Only the undefined opcodes fault; what the fault carries is the opcode, its address and the state, unchanged. -/
theorem exec_eq_fault {i : Instr} {s : State} {f : Fault} (h : exec i s = .fault f) :
    ∃ op, i.form = .illegal op ∧ f = .undefinedOpcode op (s.cpu.pc - 1) s := by
  rw [exec_eq_execForm] at h
  unfold execForm at h
  split at h
  · exact ⟨_, ‹_›, (Host.Outcome.fault.inj h).symm⟩
  · exact absurd h outcome_ne_fault

/-! ### Operands, as the statements write them -/

theorem holds8_iff {s : State} {r : R8} {v : Byte} : Holds8 s r v ↔ readR8 s r = .ok v := by
  cases r <;> simp [Holds8, readR8, State.hl, wordOf]

theorem written8_iff {s t : State} {r : R8} {v : Byte} : Written8 s r v t ↔ writeR8 s r v = .ok t := by
  cases r <;> simp [Written8, writeR8, State.hl, wordOf, eq_comm]

theorem pairValue_eq (s : State) (rr : R16) : pairValue s rr = readR16 s rr := by cases rr <;> rfl

theorem stackPairValue_eq (s : State) (rr : R16S) : stackPairValue s rr = readR16S s rr := by cases rr <;> rfl

theorem hiByte_append (hi lo : Byte) : hiByte (hi ++ lo) = hi := by
  unfold hiByte; exact BitVec.extractLsb'_append_eq_left

theorem loByte_append (hi lo : Byte) : loByte (hi ++ lo) = lo := by
  unfold loByte; exact BitVec.extractLsb'_append_eq_right

theorem withPair_eq (s : State) (hi lo : Byte) (rr : R16) : withPair s hi lo rr = writeR16 s rr (hi ++ lo) := by
  cases rr <;> simp [withPair, writeR16, State.setBC, State.setDE, State.setHL, State.setSP, hiByte_append, loByte_append]

theorem withStackPair_eq (s : State) (hi lo : Byte) (rr : R16S) : withStackPair s hi lo rr = writeR16S s rr (hi ++ lo) := by
  cases rr <;> simp [withStackPair, writeR16S, State.setBC, State.setDE, State.setHL, State.setAF, maskF, hiByte_append, loByte_append]

/-- What a pop can do: a value is read, and `SP` moves by 2. -/
theorem pop16_eq_ok {s u : State} {v : Word} : pop16 s = .ok (v, u) ↔ busGet16 s s.cpu.sp = .ok v ∧ u = s.setSP (s.cpu.sp + 2) := by
  simp only [pop16, Res.bind_eq_ok, Res.pure_eq, Except.ok.injEq, Prod.mk.injEq]
  exact ⟨fun ⟨w, h, e, f⟩ => ⟨e ▸ h, f.symm⟩, fun ⟨h, f⟩ => ⟨v, h, rfl, f.symm⟩⟩

/-- `c` keeps the lower nibble of `F` zero if it is zero. -/
abbrev KeepsNibble (c c' : Cpu) : Prop := c.f &&& 0x0F = 0 → c'.f &&& 0x0F = 0

section
variable {P : State → Prop} {L : List Word}
  (hcpu : ∀ u c, KeepsNibble u.cpu c → P u → P { u with cpu := c })
  (hbus : ∀ u u' a v, a ∈ L → P u → busSet u a v = .ok u' → P u')
include hcpu hbus

theorem writeR8_induct {r : R8} {v : Byte} {s t : State} (hL : r = .atHL → s.hl ∈ L) (hs : P s)
    (h : writeR8 s r v = .ok t) : P t := by
  cases r <;> simp only [writeR8, Except.ok.injEq] at h
  all_goals first
    | (subst h; exact hcpu s _ id hs)
    | exact hbus _ _ _ _ (hL rfl) hs h

omit hcpu in
theorem busSet16_induct {a v : Word} {s t : State} (h1 : a ∈ L) (h2 : a + 1 ∈ L) (hs : P s)
    (h : busSet16 s a v = .ok t) : P t := by
  simp only [busSet16, Res.bind_eq_ok] at h
  obtain ⟨u, hu, h⟩ := h
  exact hbus _ _ _ _ h2 (hbus _ _ _ _ h1 hs hu) h

theorem push16_induct {v : Word} {s t : State} (h1 : s.cpu.sp - 2 ∈ L) (h2 : s.cpu.sp - 1 ∈ L) (hs : P s)
    (h : push16 s v = .ok t) : P t :=
  busSet16_induct hbus h1 (by rwa [show s.cpu.sp - 2 + 1 = s.cpu.sp - 1 by ring]) (hcpu s { s.cpu with sp := s.cpu.sp - 2 } id hs) h

omit hcpu in
theorem storeA_induct {a : Word} {s t : State} (ha : a ∈ L) (hs : P s) (h : storeA a s = .ok t) : P t :=
  hbus _ _ _ _ ha hs h

theorem callTo_induct {a : Word} {s t : State} (h1 : s.cpu.sp - 2 ∈ L) (h2 : s.cpu.sp - 1 ∈ L) (hs : P s)
    (h : callTo a s = .ok t) : P t := by
  simp only [callTo, Res.bind_eq_ok, Res.pure_eq, Except.ok.injEq] at h
  obtain ⟨u, hu, rfl⟩ := h
  exact hcpu u _ id (push16_induct hcpu hbus h1 h2 hs hu)

theorem rotR8_induct {op : RotOp} {r : R8} {s t : State} (hL : r = .atHL → s.hl ∈ L) (hs : P s)
    (h : rotR8 op r s = .ok t) : P t := by
  simp only [rotR8, Res.bind_eq_ok, Res.pure_eq, Except.ok.injEq] at h
  obtain ⟨v, -, u, hu, rfl⟩ := h
  exact hcpu u _ (fun _ => maskF_low _) (writeR8_induct hcpu hbus hL hs hu)

theorem changeR8_induct {r : R8} {f : Byte → Byte} {s t : State} (hL : r = .atHL → s.hl ∈ L) (hs : P s)
    (h : (readR8 s r >>= fun v => writeR8 s r (f v)) = .ok t) : P t := by
  simp only [Res.bind_eq_ok] at h
  obtain ⟨v, -, hu⟩ := h
  exact writeR8_induct hcpu hbus hL hs hu

theorem stepR8_induct {r : R8} {f : Byte → Byte × Byte} {s t : State} (hL : r = .atHL → s.hl ∈ L) (hs : P s)
    (h : (readR8 s r >>= fun v => writeR8 (s.setF (f v).2) r (f v).1) = .ok t) : P t := by
  simp only [Res.bind_eq_ok] at h
  obtain ⟨v, -, hu⟩ := h
  exact writeR8_induct (s := s.setF (f v).2) hcpu hbus hL (hcpu s _ (fun _ => maskF_low _) hs) hu

theorem storeAStep_induct {d : Word} {s t : State} (hL : s.hl ∈ L) (hs : P s) (h : storeAStep d s = .ok t) : P t := by
  simp only [storeAStep, Res.bind_eq_ok, Res.pure_eq, Except.ok.injEq] at h
  obtain ⟨u, hu, rfl⟩ := h
  exact hcpu u _ id (hbus _ _ _ _ hL hs hu)

omit hbus in
theorem bitR8_induct {b : Fin 8} {r : R8} {s t : State} (hs : P s) (h : bitR8 b r s = .ok t) : P t := by
  simp only [bitR8, Res.bind_eq_ok, Res.pure_eq, Except.ok.injEq] at h
  obtain ⟨v, -, rfl⟩ := h
  exact hcpu s _ (fun _ => maskF_low _) hs

omit hbus in
theorem aluR8_induct {op : AluOp} {r : R8} {s t : State} (hs : P s) (h : aluR8 op r s = .ok t) : P t := by
  simp only [aluR8, Res.bind_eq_ok, Res.pure_eq, Except.ok.injEq] at h
  obtain ⟨v, -, rfl⟩ := h
  exact hcpu s _ (fun _ => maskF_low _) hs

omit hbus in
theorem loadA_induct {a : Word} {s t : State} (hs : P s) (h : loadA a s = .ok t) : P t := by
  simp only [loadA, Res.bind_eq_ok, Res.pure_eq, Except.ok.injEq] at h
  obtain ⟨v, -, rfl⟩ := h
  exact hcpu s _ id hs

omit hbus in
theorem loadAStep_induct {d : Word} {s t : State} (hs : P s) (h : loadAStep d s = .ok t) : P t := by
  simp only [loadAStep, Res.bind_eq_ok, Res.pure_eq, Except.ok.injEq] at h
  obtain ⟨v, -, rfl⟩ := h
  exact hcpu s _ id hs

omit hbus in
theorem ret_induct {s t : State} (hs : P s) (h : ret s = .ok t) : P t := by
  simp only [ret, Res.bind_eq_ok, Res.pure_eq, Except.ok.injEq, Prod.exists, pop16_eq_ok] at h
  obtain ⟨v, u, ⟨-, rfl⟩, rfl⟩ := h
  exact hcpu s _ id hs

omit hbus in
theorem returnFromInterrupt_induct {s t : State} (hs : P s) (h : returnFromInterrupt s = .ok t) : P t := by
  simp only [returnFromInterrupt, Res.bind_eq_ok, Res.pure_eq, Except.ok.injEq, Prod.exists, pop16_eq_ok] at h
  obtain ⟨v, u, ⟨-, rfl⟩, rfl⟩ := h
  exact hcpu s _ id hs

omit hbus in
theorem popPair_induct {rr : R16S} {s t : State} (hs : P s) (h : popPair rr s = .ok t) : P t := by
  simp only [popPair, Res.bind_eq_ok, Res.pure_eq, Except.ok.injEq, Prod.exists, pop16_eq_ok] at h
  obtain ⟨v, u, ⟨-, rfl⟩, rfl⟩ := h
  cases rr
  · exact hcpu s _ id hs
  · exact hcpu s _ id hs
  · exact hcpu s _ id hs
  · exact hcpu s _ (fun _ => maskF_low _) hs

omit hbus in
theorem writeR16_induct {rr : R16} {v : Word} {s : State} (hs : P s) : P (writeR16 s rr v) := by
  cases rr <;> exact hcpu s _ id hs

theorem prefixedByFields_induct {op2 : Byte} {s t : State} (hL : ∀ a ∈ storesAt (.prefixed op2) s, a ∈ L) (hs : P s)
    (h : prefixedByFields op2 s = .ok t) : P t := by
  have hr : op2.toNat / 64 ≠ 1 → R8.ofIndex (op2.toNat % 8) = .atHL → s.hl ∈ L := fun h1 h6 =>
    hL _ (by simp only [storesAt, memoryAt, if_neg h1, if_pos h6]; exact List.mem_singleton.mpr rfl)
  unfold prefixedByFields at h
  simp only at h
  split at h
  · exact rotR8_induct hcpu hbus (hr (by omega)) hs h
  · exact bitR8_induct hcpu hs h
  · exact changeR8_induct hcpu hbus (hr (by omega)) hs h
  · exact changeR8_induct hcpu hbus (hr (by omega)) hs h

/-- An operation only changes CPU registers and writes through the Bus at `storesAt`: what those two keep, it keeps. -/
theorem formResult_induct {x : Form} {s t : State} (hL : ∀ a ∈ storesAt x s, a ∈ L) (hs : P s)
    (h : formResult x s = .ok t) : P t := by
  have ofHL : ∀ {r : R8}, (∀ a ∈ memoryAt s r, a ∈ L) → r = .atHL → s.hl ∈ L :=
    fun h hr => h _ (by rw [memoryAt, if_pos hr]; exact List.mem_singleton.mpr rfl)
  have pc : ∀ a, P (s.setPC a) := fun a => hcpu s _ id hs
  have two : ∀ {a b : Word}, (∀ x ∈ [a, b], x ∈ L) → a ∈ L ∧ b ∈ L := fun h => ⟨h _ (by simp), h _ (by simp)⟩
  cases x with
  | ld8 d src =>
    obtain ⟨v, -, h⟩ := Res.bind_eq_ok.mp h
    exact writeR8_induct hcpu hbus (ofHL hL) hs h
  | ld8n d n => exact writeR8_induct hcpu hbus (ofHL hL) hs h
  | ldAInd rr => exact loadA_induct hcpu hs h
  | ldIndA rr => exact storeA_induct hbus (hL _ (List.mem_singleton.mpr rfl)) hs h
  | ldAAbs nn => exact loadA_induct hcpu hs h
  | ldAbsA nn => exact storeA_induct hbus (hL _ (List.mem_singleton.mpr rfl)) hs h
  | ldhAn n => exact loadA_induct hcpu hs h
  | ldhnA n => exact storeA_induct hbus (hL _ (List.mem_singleton.mpr rfl)) hs h
  | ldhAC => exact loadA_induct hcpu hs h
  | ldhCA => exact storeA_induct hbus (hL _ (List.mem_singleton.mpr rfl)) hs h
  | ldHLincA => exact storeAStep_induct hcpu hbus (hL _ (List.mem_singleton.mpr rfl)) hs h
  | ldAHLinc => exact loadAStep_induct hcpu hs h
  | ldHLdecA => exact storeAStep_induct hcpu hbus (hL _ (List.mem_singleton.mpr rfl)) hs h
  | ldAHLdec => exact loadAStep_induct hcpu hs h
  | ld16 rr nn => exact (Except.ok.inj h) ▸ writeR16_induct hcpu hs
  | ldAbsSP nn => exact busSet16_induct hbus (two hL).1 (two hL).2 hs h
  | ldSPHL => exact (Except.ok.inj h) ▸ hcpu s _ id hs
  | ldHLSPe eb => exact (Except.ok.inj h) ▸ hcpu s _ (fun _ => maskF_low _) hs
  | push rr => exact push16_induct hcpu hbus (two hL).1 (two hL).2 hs h
  | pop rr => exact popPair_induct hcpu hs h
  | alu op src => exact aluR8_induct hcpu hs h
  | aluN op n => exact (Except.ok.inj h) ▸ hcpu s _ (fun _ => maskF_low _) hs
  | inc8 r => exact stepR8_induct hcpu hbus (ofHL hL) hs h
  | dec8 r => exact stepR8_induct hcpu hbus (ofHL hL) hs h
  | daa => exact (Except.ok.inj h) ▸ hcpu s _ (fun _ => maskF_low _) hs
  | cpl => exact (Except.ok.inj h) ▸ hcpu s _ (fun _ => maskF_low _) hs
  | scf => exact (Except.ok.inj h) ▸ hcpu s _ (fun _ => maskF_low _) hs
  | ccf => exact (Except.ok.inj h) ▸ hcpu s _ (fun _ => maskF_low _) hs
  | addHL rr => exact (Except.ok.inj h) ▸ hcpu s _ (fun _ => maskF_low _) hs
  | inc16 rr => exact (Except.ok.inj h) ▸ writeR16_induct hcpu hs
  | dec16 rr => exact (Except.ok.inj h) ▸ writeR16_induct hcpu hs
  | addSPe eb => exact (Except.ok.inj h) ▸ hcpu s _ (fun _ => maskF_low _) hs
  | rlca => exact (Except.ok.inj h) ▸ hcpu s _ (fun _ => maskF_low _) hs
  | rrca => exact (Except.ok.inj h) ▸ hcpu s _ (fun _ => maskF_low _) hs
  | rla => exact (Except.ok.inj h) ▸ hcpu s _ (fun _ => maskF_low _) hs
  | rra => exact (Except.ok.inj h) ▸ hcpu s _ (fun _ => maskF_low _) hs
  | rot op r => exact rotR8_induct hcpu hbus (ofHL hL) hs h
  | bit b r => exact bitR8_induct hcpu hs h
  | res b r => exact changeR8_induct hcpu hbus (ofHL hL) hs h
  | set b r => exact changeR8_induct hcpu hbus (ofHL hL) hs h
  | jp nn => exact (Except.ok.inj h) ▸ pc _
  | jpCond cc nn =>
    simp only [formResult, jumpIf] at h
    split at h
    · exact (Except.ok.inj h) ▸ pc _
    · exact (Except.ok.inj h) ▸ hs
  | jpHL => exact (Except.ok.inj h) ▸ pc _
  | jr eb => exact (Except.ok.inj h) ▸ pc _
  | jrCond cc eb =>
    simp only [formResult, jumpRelIf] at h
    split at h
    · exact (Except.ok.inj h) ▸ pc _
    · exact (Except.ok.inj h) ▸ hs
  | call nn => exact callTo_induct hcpu hbus (two hL).1 (two hL).2 hs h
  | callCond cc nn =>
    simp only [formResult, callIf] at h
    split at h
    · rename_i hc
      simp only [storesAt, if_pos hc] at hL
      exact callTo_induct hcpu hbus (two hL).1 (two hL).2 hs h
    · exact (Except.ok.inj h) ▸ hs
  | ret => exact ret_induct hcpu hs h
  | retCond cc =>
    simp only [formResult, retIf] at h
    split at h
    · exact ret_induct hcpu hs h
    · exact (Except.ok.inj h) ▸ hs
  | reti => exact returnFromInterrupt_induct hcpu hs h
  | rst y => exact callTo_induct hcpu hbus (two hL).1 (two hL).2 hs h
  | nop => exact (Except.ok.inj h) ▸ hs
  | halt => exact (Except.ok.inj h) ▸ hcpu s _ id hs
  | stop => exact (Except.ok.inj h) ▸ hcpu s _ id hs
  | di => exact (Except.ok.inj h) ▸ hcpu s _ id hs
  | ei => exact (Except.ok.inj h) ▸ hcpu s _ id hs
  | prefixed op2 => exact prefixedByFields_induct hcpu hbus hL hs h
  | illegal op => exact (Except.ok.inj h) ▸ hs
end

end Sys2Proof.Machine
end

