-- ==== Sys2Proof/Laws/PerInstr.lean ====
section
/-! SUPPORT. The family `FormatLength`: the encoding of a well-formed instruction is as long as its first byte says (30_encoding.md R48),
instruction by instruction. -/

namespace Sys2Proof.Laws

/-- The encoder gives a well-formed instruction the length that the format of its first byte has. -/
def FormatLength.Statement (i : Instr) : Prop := i.wf = true → (encode i).length = instrLength ((encode i).headD 0)

namespace FormatLength

theorem ld_B_n (n : Byte) : Statement (.ld_B_n n) := fun _ => (by decide : 2 = instrLength 0x06)
theorem ld_C_n (n : Byte) : Statement (.ld_C_n n) := fun _ => (by decide : 2 = instrLength 0x0E)
theorem ld_D_n (n : Byte) : Statement (.ld_D_n n) := fun _ => (by decide : 2 = instrLength 0x16)
theorem ld_E_n (n : Byte) : Statement (.ld_E_n n) := fun _ => (by decide : 2 = instrLength 0x1E)
theorem ld_H_n (n : Byte) : Statement (.ld_H_n n) := fun _ => (by decide : 2 = instrLength 0x26)
theorem ld_L_n (n : Byte) : Statement (.ld_L_n n) := fun _ => (by decide : 2 = instrLength 0x2E)
theorem ld_atHL_n (n : Byte) : Statement (.ld_atHL_n n) := fun _ => (by decide : 2 = instrLength 0x36)
theorem ld_A_n (n : Byte) : Statement (.ld_A_n n) := fun _ => (by decide : 2 = instrLength 0x3E)
theorem ldh_atn_A (n : Byte) : Statement (.ldh_atn_A n) := fun _ => (by decide : 2 = instrLength 0xE0)
theorem ld_atnn_A (nn : Word) : Statement (.ld_atnn_A nn) := fun _ => (by decide : 3 = instrLength 0xEA)
theorem ldh_A_atn (n : Byte) : Statement (.ldh_A_atn n) := fun _ => (by decide : 2 = instrLength 0xF0)
theorem ld_A_atnn (nn : Word) : Statement (.ld_A_atnn nn) := fun _ => (by decide : 3 = instrLength 0xFA)
theorem ld_BC_nn (nn : Word) : Statement (.ld_BC_nn nn) := fun _ => (by decide : 3 = instrLength 0x01)
theorem ld_atnn_SP (nn : Word) : Statement (.ld_atnn_SP nn) := fun _ => (by decide : 3 = instrLength 0x08)
theorem ld_DE_nn (nn : Word) : Statement (.ld_DE_nn nn) := fun _ => (by decide : 3 = instrLength 0x11)
theorem ld_HL_nn (nn : Word) : Statement (.ld_HL_nn nn) := fun _ => (by decide : 3 = instrLength 0x21)
theorem ld_SP_nn (nn : Word) : Statement (.ld_SP_nn nn) := fun _ => (by decide : 3 = instrLength 0x31)
theorem ld_HL_SPe (eb : Byte) : Statement (.ld_HL_SPe eb) := fun _ => (by decide : 2 = instrLength 0xF8)
theorem add_A_n (n : Byte) : Statement (.add_A_n n) := fun _ => (by decide : 2 = instrLength 0xC6)
theorem adc_A_n (n : Byte) : Statement (.adc_A_n n) := fun _ => (by decide : 2 = instrLength 0xCE)
theorem sub_n (n : Byte) : Statement (.sub_n n) := fun _ => (by decide : 2 = instrLength 0xD6)
theorem sbc_A_n (n : Byte) : Statement (.sbc_A_n n) := fun _ => (by decide : 2 = instrLength 0xDE)
theorem and_n (n : Byte) : Statement (.and_n n) := fun _ => (by decide : 2 = instrLength 0xE6)
theorem xor_n (n : Byte) : Statement (.xor_n n) := fun _ => (by decide : 2 = instrLength 0xEE)
theorem or_n (n : Byte) : Statement (.or_n n) := fun _ => (by decide : 2 = instrLength 0xF6)
theorem cp_n (n : Byte) : Statement (.cp_n n) := fun _ => (by decide : 2 = instrLength 0xFE)
theorem add_SP_e (eb : Byte) : Statement (.add_SP_e eb) := fun _ => (by decide : 2 = instrLength 0xE8)
theorem rlc (r : R8) : Statement (.rlc r) := fun _ => (by decide : 2 = instrLength 0xCB)
theorem rrc (r : R8) : Statement (.rrc r) := fun _ => (by decide : 2 = instrLength 0xCB)
theorem rl (r : R8) : Statement (.rl r) := fun _ => (by decide : 2 = instrLength 0xCB)
theorem rr (r : R8) : Statement (.rr r) := fun _ => (by decide : 2 = instrLength 0xCB)
theorem sla (r : R8) : Statement (.sla r) := fun _ => (by decide : 2 = instrLength 0xCB)
theorem sra (r : R8) : Statement (.sra r) := fun _ => (by decide : 2 = instrLength 0xCB)
theorem swap (r : R8) : Statement (.swap r) := fun _ => (by decide : 2 = instrLength 0xCB)
theorem srl (r : R8) : Statement (.srl r) := fun _ => (by decide : 2 = instrLength 0xCB)
theorem bit_0 (r : R8) : Statement (.bit_0 r) := fun _ => (by decide : 2 = instrLength 0xCB)
theorem bit_1 (r : R8) : Statement (.bit_1 r) := fun _ => (by decide : 2 = instrLength 0xCB)
theorem bit_2 (r : R8) : Statement (.bit_2 r) := fun _ => (by decide : 2 = instrLength 0xCB)
theorem bit_3 (r : R8) : Statement (.bit_3 r) := fun _ => (by decide : 2 = instrLength 0xCB)
theorem bit_4 (r : R8) : Statement (.bit_4 r) := fun _ => (by decide : 2 = instrLength 0xCB)
theorem bit_5 (r : R8) : Statement (.bit_5 r) := fun _ => (by decide : 2 = instrLength 0xCB)
theorem bit_6 (r : R8) : Statement (.bit_6 r) := fun _ => (by decide : 2 = instrLength 0xCB)
theorem bit_7 (r : R8) : Statement (.bit_7 r) := fun _ => (by decide : 2 = instrLength 0xCB)
theorem res_0 (r : R8) : Statement (.res_0 r) := fun _ => (by decide : 2 = instrLength 0xCB)
theorem res_1 (r : R8) : Statement (.res_1 r) := fun _ => (by decide : 2 = instrLength 0xCB)
theorem res_2 (r : R8) : Statement (.res_2 r) := fun _ => (by decide : 2 = instrLength 0xCB)
theorem res_3 (r : R8) : Statement (.res_3 r) := fun _ => (by decide : 2 = instrLength 0xCB)
theorem res_4 (r : R8) : Statement (.res_4 r) := fun _ => (by decide : 2 = instrLength 0xCB)
theorem res_5 (r : R8) : Statement (.res_5 r) := fun _ => (by decide : 2 = instrLength 0xCB)
theorem res_6 (r : R8) : Statement (.res_6 r) := fun _ => (by decide : 2 = instrLength 0xCB)
theorem res_7 (r : R8) : Statement (.res_7 r) := fun _ => (by decide : 2 = instrLength 0xCB)
theorem set_0 (r : R8) : Statement (.set_0 r) := fun _ => (by decide : 2 = instrLength 0xCB)
theorem set_1 (r : R8) : Statement (.set_1 r) := fun _ => (by decide : 2 = instrLength 0xCB)
theorem set_2 (r : R8) : Statement (.set_2 r) := fun _ => (by decide : 2 = instrLength 0xCB)
theorem set_3 (r : R8) : Statement (.set_3 r) := fun _ => (by decide : 2 = instrLength 0xCB)
theorem set_4 (r : R8) : Statement (.set_4 r) := fun _ => (by decide : 2 = instrLength 0xCB)
theorem set_5 (r : R8) : Statement (.set_5 r) := fun _ => (by decide : 2 = instrLength 0xCB)
theorem set_6 (r : R8) : Statement (.set_6 r) := fun _ => (by decide : 2 = instrLength 0xCB)
theorem set_7 (r : R8) : Statement (.set_7 r) := fun _ => (by decide : 2 = instrLength 0xCB)
theorem jr_e (eb : Byte) : Statement (.jr_e eb) := fun _ => (by decide : 2 = instrLength 0x18)
theorem jr_NZ_e (eb : Byte) : Statement (.jr_NZ_e eb) := fun _ => (by decide : 2 = instrLength 0x20)
theorem jr_Z_e (eb : Byte) : Statement (.jr_Z_e eb) := fun _ => (by decide : 2 = instrLength 0x28)
theorem jr_NC_e (eb : Byte) : Statement (.jr_NC_e eb) := fun _ => (by decide : 2 = instrLength 0x30)
theorem jr_C_e (eb : Byte) : Statement (.jr_C_e eb) := fun _ => (by decide : 2 = instrLength 0x38)
theorem jp_NZ_nn (nn : Word) : Statement (.jp_NZ_nn nn) := fun _ => (by decide : 3 = instrLength 0xC2)
theorem jp_nn (nn : Word) : Statement (.jp_nn nn) := fun _ => (by decide : 3 = instrLength 0xC3)
theorem call_NZ_nn (nn : Word) : Statement (.call_NZ_nn nn) := fun _ => (by decide : 3 = instrLength 0xC4)
theorem jp_Z_nn (nn : Word) : Statement (.jp_Z_nn nn) := fun _ => (by decide : 3 = instrLength 0xCA)
theorem call_Z_nn (nn : Word) : Statement (.call_Z_nn nn) := fun _ => (by decide : 3 = instrLength 0xCC)
theorem call_nn (nn : Word) : Statement (.call_nn nn) := fun _ => (by decide : 3 = instrLength 0xCD)
theorem jp_NC_nn (nn : Word) : Statement (.jp_NC_nn nn) := fun _ => (by decide : 3 = instrLength 0xD2)
theorem call_NC_nn (nn : Word) : Statement (.call_NC_nn nn) := fun _ => (by decide : 3 = instrLength 0xD4)
theorem jp_C_nn (nn : Word) : Statement (.jp_C_nn nn) := fun _ => (by decide : 3 = instrLength 0xDA)
theorem call_C_nn (nn : Word) : Statement (.call_C_nn nn) := fun _ => (by decide : 3 = instrLength 0xDC)
theorem prefixCB (op2 : Byte) : Statement (.prefixCB op2) := fun h => nomatch h
theorem illegal (op : Byte) : Statement (.illegal op) := by revert op; unfold Statement; decide
theorem ld_atBC_A : Statement .ld_atBC_A := fun _ => (by decide : 1 = instrLength 0x02)
theorem ld_A_atBC : Statement .ld_A_atBC := fun _ => (by decide : 1 = instrLength 0x0A)
theorem ld_atDE_A : Statement .ld_atDE_A := fun _ => (by decide : 1 = instrLength 0x12)
theorem ld_A_atDE : Statement .ld_A_atDE := fun _ => (by decide : 1 = instrLength 0x1A)
theorem ld_atHLinc_A : Statement .ld_atHLinc_A := fun _ => (by decide : 1 = instrLength 0x22)
theorem ld_A_atHLinc : Statement .ld_A_atHLinc := fun _ => (by decide : 1 = instrLength 0x2A)
theorem ld_atHLdec_A : Statement .ld_atHLdec_A := fun _ => (by decide : 1 = instrLength 0x32)
theorem ld_A_atHLdec : Statement .ld_A_atHLdec := fun _ => (by decide : 1 = instrLength 0x3A)
theorem ld_B_B : Statement .ld_B_B := fun _ => (by decide : 1 = instrLength 0x40)
theorem ld_B_C : Statement .ld_B_C := fun _ => (by decide : 1 = instrLength 0x41)
theorem ld_B_D : Statement .ld_B_D := fun _ => (by decide : 1 = instrLength 0x42)
theorem ld_B_E : Statement .ld_B_E := fun _ => (by decide : 1 = instrLength 0x43)
theorem ld_B_H : Statement .ld_B_H := fun _ => (by decide : 1 = instrLength 0x44)
theorem ld_B_L : Statement .ld_B_L := fun _ => (by decide : 1 = instrLength 0x45)
theorem ld_B_atHL : Statement .ld_B_atHL := fun _ => (by decide : 1 = instrLength 0x46)
theorem ld_B_A : Statement .ld_B_A := fun _ => (by decide : 1 = instrLength 0x47)
theorem ld_C_B : Statement .ld_C_B := fun _ => (by decide : 1 = instrLength 0x48)
theorem ld_C_C : Statement .ld_C_C := fun _ => (by decide : 1 = instrLength 0x49)
theorem ld_C_D : Statement .ld_C_D := fun _ => (by decide : 1 = instrLength 0x4A)
theorem ld_C_E : Statement .ld_C_E := fun _ => (by decide : 1 = instrLength 0x4B)
theorem ld_C_H : Statement .ld_C_H := fun _ => (by decide : 1 = instrLength 0x4C)
theorem ld_C_L : Statement .ld_C_L := fun _ => (by decide : 1 = instrLength 0x4D)
theorem ld_C_atHL : Statement .ld_C_atHL := fun _ => (by decide : 1 = instrLength 0x4E)
theorem ld_C_A : Statement .ld_C_A := fun _ => (by decide : 1 = instrLength 0x4F)
theorem ld_D_B : Statement .ld_D_B := fun _ => (by decide : 1 = instrLength 0x50)
theorem ld_D_C : Statement .ld_D_C := fun _ => (by decide : 1 = instrLength 0x51)
theorem ld_D_D : Statement .ld_D_D := fun _ => (by decide : 1 = instrLength 0x52)
theorem ld_D_E : Statement .ld_D_E := fun _ => (by decide : 1 = instrLength 0x53)
theorem ld_D_H : Statement .ld_D_H := fun _ => (by decide : 1 = instrLength 0x54)
theorem ld_D_L : Statement .ld_D_L := fun _ => (by decide : 1 = instrLength 0x55)
theorem ld_D_atHL : Statement .ld_D_atHL := fun _ => (by decide : 1 = instrLength 0x56)
theorem ld_D_A : Statement .ld_D_A := fun _ => (by decide : 1 = instrLength 0x57)
theorem ld_E_B : Statement .ld_E_B := fun _ => (by decide : 1 = instrLength 0x58)
theorem ld_E_C : Statement .ld_E_C := fun _ => (by decide : 1 = instrLength 0x59)
theorem ld_E_D : Statement .ld_E_D := fun _ => (by decide : 1 = instrLength 0x5A)
theorem ld_E_E : Statement .ld_E_E := fun _ => (by decide : 1 = instrLength 0x5B)
theorem ld_E_H : Statement .ld_E_H := fun _ => (by decide : 1 = instrLength 0x5C)
theorem ld_E_L : Statement .ld_E_L := fun _ => (by decide : 1 = instrLength 0x5D)
theorem ld_E_atHL : Statement .ld_E_atHL := fun _ => (by decide : 1 = instrLength 0x5E)
theorem ld_E_A : Statement .ld_E_A := fun _ => (by decide : 1 = instrLength 0x5F)
theorem ld_H_B : Statement .ld_H_B := fun _ => (by decide : 1 = instrLength 0x60)
theorem ld_H_C : Statement .ld_H_C := fun _ => (by decide : 1 = instrLength 0x61)
theorem ld_H_D : Statement .ld_H_D := fun _ => (by decide : 1 = instrLength 0x62)
theorem ld_H_E : Statement .ld_H_E := fun _ => (by decide : 1 = instrLength 0x63)
theorem ld_H_H : Statement .ld_H_H := fun _ => (by decide : 1 = instrLength 0x64)
theorem ld_H_L : Statement .ld_H_L := fun _ => (by decide : 1 = instrLength 0x65)
theorem ld_H_atHL : Statement .ld_H_atHL := fun _ => (by decide : 1 = instrLength 0x66)
theorem ld_H_A : Statement .ld_H_A := fun _ => (by decide : 1 = instrLength 0x67)
theorem ld_L_B : Statement .ld_L_B := fun _ => (by decide : 1 = instrLength 0x68)
theorem ld_L_C : Statement .ld_L_C := fun _ => (by decide : 1 = instrLength 0x69)
theorem ld_L_D : Statement .ld_L_D := fun _ => (by decide : 1 = instrLength 0x6A)
theorem ld_L_E : Statement .ld_L_E := fun _ => (by decide : 1 = instrLength 0x6B)
theorem ld_L_H : Statement .ld_L_H := fun _ => (by decide : 1 = instrLength 0x6C)
theorem ld_L_L : Statement .ld_L_L := fun _ => (by decide : 1 = instrLength 0x6D)
theorem ld_L_atHL : Statement .ld_L_atHL := fun _ => (by decide : 1 = instrLength 0x6E)
theorem ld_L_A : Statement .ld_L_A := fun _ => (by decide : 1 = instrLength 0x6F)
theorem ld_atHL_B : Statement .ld_atHL_B := fun _ => (by decide : 1 = instrLength 0x70)
theorem ld_atHL_C : Statement .ld_atHL_C := fun _ => (by decide : 1 = instrLength 0x71)
theorem ld_atHL_D : Statement .ld_atHL_D := fun _ => (by decide : 1 = instrLength 0x72)
theorem ld_atHL_E : Statement .ld_atHL_E := fun _ => (by decide : 1 = instrLength 0x73)
theorem ld_atHL_H : Statement .ld_atHL_H := fun _ => (by decide : 1 = instrLength 0x74)
theorem ld_atHL_L : Statement .ld_atHL_L := fun _ => (by decide : 1 = instrLength 0x75)
theorem ld_atHL_A : Statement .ld_atHL_A := fun _ => (by decide : 1 = instrLength 0x77)
theorem ld_A_B : Statement .ld_A_B := fun _ => (by decide : 1 = instrLength 0x78)
theorem ld_A_C : Statement .ld_A_C := fun _ => (by decide : 1 = instrLength 0x79)
theorem ld_A_D : Statement .ld_A_D := fun _ => (by decide : 1 = instrLength 0x7A)
theorem ld_A_E : Statement .ld_A_E := fun _ => (by decide : 1 = instrLength 0x7B)
theorem ld_A_H : Statement .ld_A_H := fun _ => (by decide : 1 = instrLength 0x7C)
theorem ld_A_L : Statement .ld_A_L := fun _ => (by decide : 1 = instrLength 0x7D)
theorem ld_A_atHL : Statement .ld_A_atHL := fun _ => (by decide : 1 = instrLength 0x7E)
theorem ld_A_A : Statement .ld_A_A := fun _ => (by decide : 1 = instrLength 0x7F)
theorem ldh_atC_A : Statement .ldh_atC_A := fun _ => (by decide : 1 = instrLength 0xE2)
theorem ldh_A_atC : Statement .ldh_A_atC := fun _ => (by decide : 1 = instrLength 0xF2)
theorem pop_BC : Statement .pop_BC := fun _ => (by decide : 1 = instrLength 0xC1)
theorem push_BC : Statement .push_BC := fun _ => (by decide : 1 = instrLength 0xC5)
theorem pop_DE : Statement .pop_DE := fun _ => (by decide : 1 = instrLength 0xD1)
theorem push_DE : Statement .push_DE := fun _ => (by decide : 1 = instrLength 0xD5)
theorem pop_HL : Statement .pop_HL := fun _ => (by decide : 1 = instrLength 0xE1)
theorem push_HL : Statement .push_HL := fun _ => (by decide : 1 = instrLength 0xE5)
theorem pop_AF : Statement .pop_AF := fun _ => (by decide : 1 = instrLength 0xF1)
theorem push_AF : Statement .push_AF := fun _ => (by decide : 1 = instrLength 0xF5)
theorem ld_SP_HL : Statement .ld_SP_HL := fun _ => (by decide : 1 = instrLength 0xF9)
theorem inc_B : Statement .inc_B := fun _ => (by decide : 1 = instrLength 0x04)
theorem dec_B : Statement .dec_B := fun _ => (by decide : 1 = instrLength 0x05)
theorem inc_C : Statement .inc_C := fun _ => (by decide : 1 = instrLength 0x0C)
theorem dec_C : Statement .dec_C := fun _ => (by decide : 1 = instrLength 0x0D)
theorem inc_D : Statement .inc_D := fun _ => (by decide : 1 = instrLength 0x14)
theorem dec_D : Statement .dec_D := fun _ => (by decide : 1 = instrLength 0x15)
theorem inc_E : Statement .inc_E := fun _ => (by decide : 1 = instrLength 0x1C)
theorem dec_E : Statement .dec_E := fun _ => (by decide : 1 = instrLength 0x1D)
theorem inc_H : Statement .inc_H := fun _ => (by decide : 1 = instrLength 0x24)
theorem dec_H : Statement .dec_H := fun _ => (by decide : 1 = instrLength 0x25)
theorem daa : Statement .daa := fun _ => (by decide : 1 = instrLength 0x27)
theorem inc_L : Statement .inc_L := fun _ => (by decide : 1 = instrLength 0x2C)
theorem dec_L : Statement .dec_L := fun _ => (by decide : 1 = instrLength 0x2D)
theorem cpl : Statement .cpl := fun _ => (by decide : 1 = instrLength 0x2F)
theorem inc_atHL : Statement .inc_atHL := fun _ => (by decide : 1 = instrLength 0x34)
theorem dec_atHL : Statement .dec_atHL := fun _ => (by decide : 1 = instrLength 0x35)
theorem scf : Statement .scf := fun _ => (by decide : 1 = instrLength 0x37)
theorem inc_A : Statement .inc_A := fun _ => (by decide : 1 = instrLength 0x3C)
theorem dec_A : Statement .dec_A := fun _ => (by decide : 1 = instrLength 0x3D)
theorem ccf : Statement .ccf := fun _ => (by decide : 1 = instrLength 0x3F)
theorem add_A_B : Statement .add_A_B := fun _ => (by decide : 1 = instrLength 0x80)
theorem add_A_C : Statement .add_A_C := fun _ => (by decide : 1 = instrLength 0x81)
theorem add_A_D : Statement .add_A_D := fun _ => (by decide : 1 = instrLength 0x82)
theorem add_A_E : Statement .add_A_E := fun _ => (by decide : 1 = instrLength 0x83)
theorem add_A_H : Statement .add_A_H := fun _ => (by decide : 1 = instrLength 0x84)
theorem add_A_L : Statement .add_A_L := fun _ => (by decide : 1 = instrLength 0x85)
theorem add_A_atHL : Statement .add_A_atHL := fun _ => (by decide : 1 = instrLength 0x86)
theorem add_A_A : Statement .add_A_A := fun _ => (by decide : 1 = instrLength 0x87)
theorem adc_A_B : Statement .adc_A_B := fun _ => (by decide : 1 = instrLength 0x88)
theorem adc_A_C : Statement .adc_A_C := fun _ => (by decide : 1 = instrLength 0x89)
theorem adc_A_D : Statement .adc_A_D := fun _ => (by decide : 1 = instrLength 0x8A)
theorem adc_A_E : Statement .adc_A_E := fun _ => (by decide : 1 = instrLength 0x8B)
theorem adc_A_H : Statement .adc_A_H := fun _ => (by decide : 1 = instrLength 0x8C)
theorem adc_A_L : Statement .adc_A_L := fun _ => (by decide : 1 = instrLength 0x8D)
theorem adc_A_atHL : Statement .adc_A_atHL := fun _ => (by decide : 1 = instrLength 0x8E)
theorem adc_A_A : Statement .adc_A_A := fun _ => (by decide : 1 = instrLength 0x8F)
theorem sub_B : Statement .sub_B := fun _ => (by decide : 1 = instrLength 0x90)
theorem sub_C : Statement .sub_C := fun _ => (by decide : 1 = instrLength 0x91)
theorem sub_D : Statement .sub_D := fun _ => (by decide : 1 = instrLength 0x92)
theorem sub_E : Statement .sub_E := fun _ => (by decide : 1 = instrLength 0x93)
theorem sub_H : Statement .sub_H := fun _ => (by decide : 1 = instrLength 0x94)
theorem sub_L : Statement .sub_L := fun _ => (by decide : 1 = instrLength 0x95)
theorem sub_atHL : Statement .sub_atHL := fun _ => (by decide : 1 = instrLength 0x96)
theorem sub_A : Statement .sub_A := fun _ => (by decide : 1 = instrLength 0x97)
theorem sbc_A_B : Statement .sbc_A_B := fun _ => (by decide : 1 = instrLength 0x98)
theorem sbc_A_C : Statement .sbc_A_C := fun _ => (by decide : 1 = instrLength 0x99)
theorem sbc_A_D : Statement .sbc_A_D := fun _ => (by decide : 1 = instrLength 0x9A)
theorem sbc_A_E : Statement .sbc_A_E := fun _ => (by decide : 1 = instrLength 0x9B)
theorem sbc_A_H : Statement .sbc_A_H := fun _ => (by decide : 1 = instrLength 0x9C)
theorem sbc_A_L : Statement .sbc_A_L := fun _ => (by decide : 1 = instrLength 0x9D)
theorem sbc_A_atHL : Statement .sbc_A_atHL := fun _ => (by decide : 1 = instrLength 0x9E)
theorem sbc_A_A : Statement .sbc_A_A := fun _ => (by decide : 1 = instrLength 0x9F)
theorem and_B : Statement .and_B := fun _ => (by decide : 1 = instrLength 0xA0)
theorem and_C : Statement .and_C := fun _ => (by decide : 1 = instrLength 0xA1)
theorem and_D : Statement .and_D := fun _ => (by decide : 1 = instrLength 0xA2)
theorem and_E : Statement .and_E := fun _ => (by decide : 1 = instrLength 0xA3)
theorem and_H : Statement .and_H := fun _ => (by decide : 1 = instrLength 0xA4)
theorem and_L : Statement .and_L := fun _ => (by decide : 1 = instrLength 0xA5)
theorem and_atHL : Statement .and_atHL := fun _ => (by decide : 1 = instrLength 0xA6)
theorem and_A : Statement .and_A := fun _ => (by decide : 1 = instrLength 0xA7)
theorem xor_B : Statement .xor_B := fun _ => (by decide : 1 = instrLength 0xA8)
theorem xor_C : Statement .xor_C := fun _ => (by decide : 1 = instrLength 0xA9)
theorem xor_D : Statement .xor_D := fun _ => (by decide : 1 = instrLength 0xAA)
theorem xor_E : Statement .xor_E := fun _ => (by decide : 1 = instrLength 0xAB)
theorem xor_H : Statement .xor_H := fun _ => (by decide : 1 = instrLength 0xAC)
theorem xor_L : Statement .xor_L := fun _ => (by decide : 1 = instrLength 0xAD)
theorem xor_atHL : Statement .xor_atHL := fun _ => (by decide : 1 = instrLength 0xAE)
theorem xor_A : Statement .xor_A := fun _ => (by decide : 1 = instrLength 0xAF)
theorem or_B : Statement .or_B := fun _ => (by decide : 1 = instrLength 0xB0)
theorem or_C : Statement .or_C := fun _ => (by decide : 1 = instrLength 0xB1)
theorem or_D : Statement .or_D := fun _ => (by decide : 1 = instrLength 0xB2)
theorem or_E : Statement .or_E := fun _ => (by decide : 1 = instrLength 0xB3)
theorem or_H : Statement .or_H := fun _ => (by decide : 1 = instrLength 0xB4)
theorem or_L : Statement .or_L := fun _ => (by decide : 1 = instrLength 0xB5)
theorem or_atHL : Statement .or_atHL := fun _ => (by decide : 1 = instrLength 0xB6)
theorem or_A : Statement .or_A := fun _ => (by decide : 1 = instrLength 0xB7)
theorem cp_B : Statement .cp_B := fun _ => (by decide : 1 = instrLength 0xB8)
theorem cp_C : Statement .cp_C := fun _ => (by decide : 1 = instrLength 0xB9)
theorem cp_D : Statement .cp_D := fun _ => (by decide : 1 = instrLength 0xBA)
theorem cp_E : Statement .cp_E := fun _ => (by decide : 1 = instrLength 0xBB)
theorem cp_H : Statement .cp_H := fun _ => (by decide : 1 = instrLength 0xBC)
theorem cp_L : Statement .cp_L := fun _ => (by decide : 1 = instrLength 0xBD)
theorem cp_atHL : Statement .cp_atHL := fun _ => (by decide : 1 = instrLength 0xBE)
theorem cp_A : Statement .cp_A := fun _ => (by decide : 1 = instrLength 0xBF)
theorem inc_BC : Statement .inc_BC := fun _ => (by decide : 1 = instrLength 0x03)
theorem add_HL_BC : Statement .add_HL_BC := fun _ => (by decide : 1 = instrLength 0x09)
theorem dec_BC : Statement .dec_BC := fun _ => (by decide : 1 = instrLength 0x0B)
theorem inc_DE : Statement .inc_DE := fun _ => (by decide : 1 = instrLength 0x13)
theorem add_HL_DE : Statement .add_HL_DE := fun _ => (by decide : 1 = instrLength 0x19)
theorem dec_DE : Statement .dec_DE := fun _ => (by decide : 1 = instrLength 0x1B)
theorem inc_HL : Statement .inc_HL := fun _ => (by decide : 1 = instrLength 0x23)
theorem add_HL_HL : Statement .add_HL_HL := fun _ => (by decide : 1 = instrLength 0x29)
theorem dec_HL : Statement .dec_HL := fun _ => (by decide : 1 = instrLength 0x2B)
theorem inc_SP : Statement .inc_SP := fun _ => (by decide : 1 = instrLength 0x33)
theorem add_HL_SP : Statement .add_HL_SP := fun _ => (by decide : 1 = instrLength 0x39)
theorem dec_SP : Statement .dec_SP := fun _ => (by decide : 1 = instrLength 0x3B)
theorem rlca : Statement .rlca := fun _ => (by decide : 1 = instrLength 0x07)
theorem rrca : Statement .rrca := fun _ => (by decide : 1 = instrLength 0x0F)
theorem rla : Statement .rla := fun _ => (by decide : 1 = instrLength 0x17)
theorem rra : Statement .rra := fun _ => (by decide : 1 = instrLength 0x1F)
theorem ret_NZ : Statement .ret_NZ := fun _ => (by decide : 1 = instrLength 0xC0)
theorem rst_00H : Statement .rst_00H := fun _ => (by decide : 1 = instrLength 0xC7)
theorem ret_Z : Statement .ret_Z := fun _ => (by decide : 1 = instrLength 0xC8)
theorem ret : Statement .ret := fun _ => (by decide : 1 = instrLength 0xC9)
theorem rst_08H : Statement .rst_08H := fun _ => (by decide : 1 = instrLength 0xCF)
theorem ret_NC : Statement .ret_NC := fun _ => (by decide : 1 = instrLength 0xD0)
theorem rst_10H : Statement .rst_10H := fun _ => (by decide : 1 = instrLength 0xD7)
theorem ret_C : Statement .ret_C := fun _ => (by decide : 1 = instrLength 0xD8)
theorem reti : Statement .reti := fun _ => (by decide : 1 = instrLength 0xD9)
theorem rst_18H : Statement .rst_18H := fun _ => (by decide : 1 = instrLength 0xDF)
theorem rst_20H : Statement .rst_20H := fun _ => (by decide : 1 = instrLength 0xE7)
theorem jp_HL : Statement .jp_HL := fun _ => (by decide : 1 = instrLength 0xE9)
theorem rst_28H : Statement .rst_28H := fun _ => (by decide : 1 = instrLength 0xEF)
theorem rst_30H : Statement .rst_30H := fun _ => (by decide : 1 = instrLength 0xF7)
theorem rst_38H : Statement .rst_38H := fun _ => (by decide : 1 = instrLength 0xFF)
theorem nop : Statement .nop := fun _ => (by decide : 1 = instrLength 0x00)
theorem stop : Statement .stop := fun _ => (by decide : 1 = instrLength 0x10)
theorem halt : Statement .halt := fun _ => (by decide : 1 = instrLength 0x76)
theorem di : Statement .di := fun _ => (by decide : 1 = instrLength 0xF3)
theorem ei : Statement .ei := fun _ => (by decide : 1 = instrLength 0xFB)

end FormatLength

end Sys2Proof.Laws
end

