-- ==== Sys2Proof/Laws/Refusal.lean ====
section
/-! SUPPORT. Which refusals an operation can answer with: the two accesses that 20_memory.md R39 and R40 tell a model to refuse, and no
other (log 5). -/

namespace Sys2Proof.Machine

/-- Every refusal of the result is one of the two accesses of log 5. -/
def RefusesOnlyAbsent {α : Type} (x : Res α) : Prop :=
  ∀ r, x = .error r → (∃ b, r = .romBankBeyondImage b) ∨ (∃ n, r = .cartRamBeyondSize n)

theorem refuses_ok {α : Type} (a : α) : RefusesOnlyAbsent (.ok a) := fun _ h => nomatch h

theorem refuses_bind {α β : Type} {x : Res α} {f : α → Res β} (h : RefusesOnlyAbsent x) (hf : ∀ a, RefusesOnlyAbsent (f a)) :
    RefusesOnlyAbsent (x >>= f) := by
  intro r e
  rcases Res.bind_eq_error.mp e with e | ⟨a, -, e⟩
  · exact h r e
  · exact hf a r e

theorem refuses_mbcGet (s : State) (a : Word) : RefusesOnlyAbsent (mbcGet s a) := by
  intro r h
  unfold mbcGet at h
  split at h <;> try cases h
  all_goals (simp only at h; split at h <;> first | (cases h; done) | skip)
  all_goals first
    | (cases h; exact .inl ⟨_, rfl⟩)
    | (split at h <;> cases h; exact .inr ⟨_, rfl⟩)

theorem refuses_mbcSet (s : State) (a : Word) (v : Byte) : RefusesOnlyAbsent (mbcSet s a v) := by
  intro r h
  unfold mbcSet at h
  split at h <;> try cases h
  simp only at h
  split at h
  · split at h <;> cases h; exact .inr ⟨_, rfl⟩
  · cases h

theorem refuses_busGet (s : State) (a : Word) : RefusesOnlyAbsent (busGet s a) := by
  unfold busGet
  split
  · exact refuses_ok _
  · unfold regionGet
    split <;> first | exact refuses_ok _ | exact refuses_mbcGet _ _

theorem refuses_dmaCopy (page : Byte) (count i : Nat) (s : State) : RefusesOnlyAbsent (dmaCopy page count i s) := by
  induction count generalizing i s with
  | zero => exact refuses_ok _
  | succ n ih => exact refuses_bind (refuses_busGet _ _) fun _ => ih _ _

theorem refuses_busSet (s : State) (a : Word) (v : Byte) : RefusesOnlyAbsent (busSet s a v) := by
  unfold busSet
  split
  · exact refuses_ok _
  · unfold regionSet
    split <;> first | exact refuses_ok _ | exact refuses_mbcSet _ _ _ | skip
    unfold ppuRegionSet
    simp only
    split
    · exact refuses_dmaCopy _ _ _ _
    · exact refuses_ok _

theorem refuses_readR8 (s : State) (r : R8) : RefusesOnlyAbsent (readR8 s r) := by
  cases r <;> first | exact refuses_ok _ | exact refuses_busGet _ _

theorem refuses_writeR8 (s : State) (r : R8) (v : Byte) : RefusesOnlyAbsent (writeR8 s r v) := by
  cases r <;> first | exact refuses_ok _ | exact refuses_busSet _ _ _

theorem refuses_push16 (s : State) (v : Word) : RefusesOnlyAbsent (push16 s v) :=
  refuses_bind (refuses_busSet _ _ _) fun _ => refuses_busSet _ _ _

theorem refuses_pop16 (s : State) : RefusesOnlyAbsent (pop16 s) :=
  refuses_bind (refuses_bind (refuses_busGet _ _) fun _ => refuses_bind (refuses_busGet _ _) fun _ => refuses_ok _) fun _ => refuses_ok _

theorem refuses_fetch (s : State) : RefusesOnlyAbsent (fetch s) := by
  refine refuses_bind (refuses_busGet _ _) fun op => ?_
  split <;> first
    | exact refuses_ok _
    | exact refuses_bind (refuses_busGet _ _) fun _ => refuses_ok _
    | exact refuses_bind (refuses_busGet _ _) fun _ => refuses_bind (refuses_busGet _ _) fun _ => refuses_ok _

end Sys2Proof.Machine
end

