-- ==== Sys2Proof/Laws/Step.lean ====
section
/-! SUPPORT. One system step, said once: its three kinds, what the two ticks change, and what the delivery of host events changes. -/

namespace Sys2Proof.Machine

/-! ### The kinds of step -/

theorem step_eq_next {s t : State} : step s = .next t ↔
    ∃ s1 c, cpuStep (deliverInputs s) = .next (s1, c) ∧ t = ppuTick c (timerTick c s1) := by
  unfold step
  split
  · rename_i s1 c h
    simp only [Host.Outcome.next.injEq, h, Prod.mk.injEq]
    exact ⟨fun e => ⟨s1, c, ⟨rfl, rfl⟩, e.symm⟩, fun ⟨_, _, ⟨e1, e2⟩, e⟩ => by rw [e, e1, e2]⟩
  · rename_i h; simp [h]
  · rename_i h; simp [h]

/-- The three ways `CPU.Step` goes on: an interrupt is taken, the CPU idles, or an instruction runs. -/
theorem cpuStep_eq_next {s s1 : State} {c : Nat} (h : cpuStep s = .next (s1, c)) :
    (takeInterrupt (haltExit s) (lowestRipe (haltExit s).ripe) = .ok s1 ∧ c = 20 ∧ (haltExit s).cpu.ime = true ∧ (haltExit s).ripe ≠ 0) ∨
    (s1 = haltExit s ∧ c = 4 ∧ (haltExit s).cpu.halted = true) ∨
    (∃ i u, fetch (haltExit s) = .ok (i, u) ∧ exec i u = .next s1 ∧ c = cycles i u) := by
  unfold cpuStep at h
  simp only at h
  split at h
  · rename_i hc
    simp only [Bool.and_eq_true, bne_iff_ne, ne_eq] at hc
    unfold serviceInterrupt at h
    split at h
    · cases h
    · rename_i u hu
      simp only [Host.Outcome.next.injEq, Prod.mk.injEq, irqDispatchCycles] at h
      obtain ⟨rfl, rfl⟩ := h
      exact .inl ⟨hu, rfl, hc⟩
  · split at h
    · rename_i hh
      simp only [Host.Outcome.next.injEq, Prod.mk.injEq, haltIdleCycles] at h
      exact .inr (.inl ⟨h.1.symm, h.2.symm, hh⟩)
    · unfold runInstruction at h
      split at h
      · cases h
      · rename_i i u hf
        split at h
        · rename_i v hv
          simp only [Host.Outcome.next.injEq, Prod.mk.injEq] at h
          obtain ⟨rfl, rfl⟩ := h
          exact .inr (.inr ⟨i, u, hf, hv, rfl⟩)
        · cases h
        · cases h

/-- A `CPU.Step` that faults ran an instruction that faults, on a running CPU: no dispatch, no halted step. -/
theorem cpuStep_eq_fault {s : State} {f : Fault} (h : cpuStep s = .fault f) :
    (haltExit s).cpu.halted = false ∧ ∃ i u, fetch (haltExit s) = .ok (i, u) ∧ exec i u = .fault f := by
  unfold cpuStep at h
  simp only at h
  split at h
  · unfold serviceInterrupt at h
    split at h <;> cases h
  · split at h
    · cases h
    · rename_i hh
      unfold runInstruction at h
      split at h
      · cases h
      · rename_i i u hf
        split at h
        · cases h
        · rename_i f' he
          exact ⟨Bool.eq_false_iff.mpr hh, i, u, hf, Host.Outcome.fault.inj h ▸ he⟩
        · cases h

/-- Halt exit changes `halted` alone. -/
theorem haltExit_eq (s : State) : haltExit s = { s with cpu := { s.cpu with halted := s.cpu.halted && s.ripe == 0 } } := by
  unfold haltExit
  split
  · rename_i h
    simp only [Bool.and_eq_true, bne_iff_ne, ne_eq] at h
    have : (s.cpu.halted && s.ripe == 0) = false := by rw [h.1, beq_eq_false_iff_ne.mpr h.2]; rfl
    rw [this]; rfl
  · rename_i h
    have : (s.cpu.halted && s.ripe == 0) = s.cpu.halted := by
      cases hh : s.cpu.halted <;> simp_all
    rw [this]

/-- A fetch moves `PC` alone. -/
theorem fetch_eq_ok {s u : State} {i : Instr} (h : fetch s = .ok (i, u)) : ∃ pc, u = s.setPC pc := by
  unfold fetch at h
  simp only [Res.bind_eq_ok] at h
  obtain ⟨op, -, h⟩ := h
  split at h
  · simp only [Res.pure_eq, Except.ok.injEq, Prod.mk.injEq] at h; exact ⟨_, h.2.symm⟩
  · simp only [Res.bind_eq_ok, Res.pure_eq, Except.ok.injEq, Prod.mk.injEq] at h
    obtain ⟨_, -, -, h⟩ := h; exact ⟨_, h.symm⟩
  · simp only [Res.bind_eq_ok, Res.pure_eq, Except.ok.injEq, Prod.mk.injEq] at h
    obtain ⟨_, -, _, -, -, h⟩ := h; exact ⟨_, h.symm⟩
  · simp only [Res.bind_eq_ok, Res.pure_eq, Except.ok.injEq, Prod.mk.injEq] at h
    obtain ⟨_, -, -, h⟩ := h; exact ⟨_, h.symm⟩

/-- A fetch of bytes that decode to one whole instruction gives it, with `PC` past it. -/
theorem fetch_of_bytes {s : State} {i : Instr} {bytes : List Byte} (hb : busHolds s s.cpu.pc bytes)
    (hd : decode bytes = .ok (i, [])) : fetch s = .ok (i, s.setPC (s.cpu.pc + BitVec.ofNat 16 bytes.length)) := by
  cases bytes with
  | nil => cases hd
  | cons op bs =>
    have e : s.cpu.pc + 1 + 1 = s.cpu.pc + 2 := by ring
    unfold fetch
    simp only [hb.1, Res.ok_bind]
    cases hrow : row op with
    | op j =>
      cases bs <;> simp only [decode, hrow, Except.ok.injEq, Prod.mk.injEq, reduceCtorEq, and_false, and_true] at hd
      subst hd; rfl
    | opN mk =>
      match bs with
      | [] => simp only [decode, hrow, reduceCtorEq] at hd
      | b :: bs =>
        simp only [decode, hrow, Except.ok.injEq, Prod.mk.injEq] at hd
        obtain ⟨rfl, rfl⟩ := hd
        simp only [hb.2.1, Res.ok_bind]; rfl
    | opNN mk =>
      match bs with
      | [] => simp only [decode, hrow, reduceCtorEq] at hd
      | [_] => simp only [decode, hrow, reduceCtorEq] at hd
      | b :: c :: bs =>
        simp only [decode, hrow, Except.ok.injEq, Prod.mk.injEq] at hd
        obtain ⟨rfl, rfl⟩ := hd
        simp only [hb.2.1, Res.ok_bind]
        rw [← e, hb.2.2.1]; rfl
    | cbOp =>
      match bs with
      | [] => simp only [decode, hrow, reduceCtorEq] at hd
      | b :: bs =>
        simp only [decode, hrow, Except.ok.injEq, Prod.mk.injEq] at hd
        obtain ⟨rfl, rfl⟩ := hd
        simp only [hb.2.1, Res.ok_bind]; rfl

/-! ### Host events -/

theorem applyEvent_frame (s : State) (e : HostEvent) :
    ∃ j q, applyEvent s e = { s with joypad := { s.joypad with buttons := j }, irq := { s.irq with flags := q } } := by
  unfold applyEvent
  split
  · split
    · exact ⟨_, _, rfl⟩
    · exact ⟨_, _, rfl⟩
  · exact ⟨_, _, rfl⟩

/-- The delivery of host events changes the buttons, `IF` and the events to come, and nothing else. -/
theorem deliverInputs_frame (s : State) :
    ∃ j q es, deliverInputs s = { s with joypad := { s.joypad with buttons := j }, irq := { s.irq with flags := q }, inputs := es } := by
  unfold deliverInputs
  split
  · exact ⟨_, _, _, rfl⟩
  · rename_i events later hi
    clear hi
    suffices h : ∀ u : State, ∃ j q, events.foldl applyEvent u = { u with joypad := { u.joypad with buttons := j }, irq := { u.irq with flags := q } } by
      obtain ⟨j, q, h⟩ := h { s with inputs := later }
      exact ⟨j, q, later, h⟩
    induction events with
    | nil => exact fun u => ⟨_, _, rfl⟩
    | cons e es ih =>
      intro u
      obtain ⟨j, q, he⟩ := applyEvent_frame u e
      obtain ⟨j', q', h⟩ := ih (applyEvent u e)
      refine ⟨j', q', ?_⟩
      rw [List.foldl_cons, h, he]

/-! ### The ticks -/

theorem bumpTimaTimes_frame (k : Nat) (s : State) : ∃ x q, bumpTimaTimes k s =
    { s with timer := { s.timer with tima := x }, irq := { s.irq with flags := q } } := by
  induction k generalizing s with
  | zero => exact ⟨_, _, rfl⟩
  | succ k ih =>
    obtain ⟨x, q, h⟩ := ih (bumpTima s)
    refine ⟨x, q, ?_⟩
    rw [bumpTimaTimes, h]
    unfold bumpTima
    split <;> rfl

/-- A tick of the Timer changes its counters and `IF`. -/
theorem timerTick_frame (n : Nat) (s : State) : ∃ x q, timerTick n s = { s with
    timer := { s.timer with
      div := BitVec.ofNat 8 (s.timer.div.toNat + (s.timer.divSub + n) / 256)
      divSub := (s.timer.divSub + n) % 256
      timaSub := if timerEnabled s.timer.tac then (s.timer.timaSub + n) % timaThreshold s.timer.tac else s.timer.timaSub
      tima := x }
    irq := { s.irq with flags := q } } := by
  unfold timerTick tickTima
  simp only
  by_cases he : timerEnabled s.timer.tac = true
  · have he' : timerEnabled (tickDiv n s).timer.tac = true := he
    rw [if_pos he', if_pos he]
    obtain ⟨x, q, h⟩ := bumpTimaTimes_frame (((tickDiv n s).timer.timaSub + n) / timaThreshold (tickDiv n s).timer.tac)
      { tickDiv n s with timer := { (tickDiv n s).timer with
          timaSub := ((tickDiv n s).timer.timaSub + n) % timaThreshold (tickDiv n s).timer.tac } }
    exact ⟨x, q, h⟩
  · have he' : ¬ timerEnabled (tickDiv n s).timer.tac = true := he
    rw [if_neg he', if_neg he]
    exact ⟨_, _, rfl⟩

theorem advanceLine_eq (s : State) : advanceLine s = { s with
    ppu := { s.ppu with ly := nextLine s.ppu.ly, coincidence := nextLine s.ppu.ly == s.ppu.lyc }
    irq := { s.irq with flags := if (nextLine s.ppu.ly == s.ppu.lyc && s.ppu.statW.getLsbD 6) = true
      then s.irq.flags ||| ((1 : Byte) <<< 1) else s.irq.flags } } := by
  unfold advanceLine
  simp only
  split_ifs <;> rfl

theorem enterVBlank_eq (s : State) : enterVBlank s = { s with
    ppu := { s.ppu with front := s.ppu.back }
    irq := { s.irq with flags := if s.ppu.statW.getLsbD 4 = true
      then s.irq.flags ||| ((1 : Byte) <<< 0) ||| ((1 : Byte) <<< 1) else s.irq.flags ||| ((1 : Byte) <<< 0) } } := by
  have h : (s.requestInterrupt 0).ppu.statW.getLsbD 4 = s.ppu.statW.getLsbD 4 := rfl
  unfold enterVBlank
  simp only [h]
  split_ifs <;> rfl

/-- The frame `back` after a line boundary: one row rendered, on a visible line. -/
def renderedBack (s : State) : Frame :=
  if s.ppu.ly.toNat < 144 then s.ppu.back.set s.ppu.ly.toNat ((List.range 160).map (pixelShade s s.ppu.ly.toNat)) else s.ppu.back

/-- A line boundary, in one record: rendering, the new line and what depends on it. -/
theorem lineBoundary_eq (s : State) : lineBoundary s = { s with
    irq := { s.irq with flags :=
      let q := if (nextLine s.ppu.ly == s.ppu.lyc && s.ppu.statW.getLsbD 6) = true then s.irq.flags ||| ((1 : Byte) <<< 1) else s.irq.flags
      if (nextLine s.ppu.ly).toNat = 144 then
        (if s.ppu.statW.getLsbD 4 = true then q ||| ((1 : Byte) <<< 0) ||| ((1 : Byte) <<< 1) else q ||| ((1 : Byte) <<< 0))
      else q }
    ppu := { s.ppu with
      ly := nextLine s.ppu.ly
      coincidence := nextLine s.ppu.ly == s.ppu.lyc
      mode := if (nextLine s.ppu.ly).toNat ≥ 144 then .vblank else .hblank
      back := renderedBack s
      front := if (nextLine s.ppu.ly).toNat = 144 then renderedBack s else s.ppu.front } } := by
  have h : (if s.ppu.ly.toNat < vblankLine then renderLine s s.ppu.ly.toNat else s) =
      { s with ppu := { s.ppu with back := renderedBack s } } := by
    unfold renderedBack renderLine vblankLine screenWidth
    split_ifs <;> rfl
  unfold lineBoundary
  simp only [h]
  generalize renderedBack s = back
  simp only [advanceLine_eq, enterVBlank_eq, vblankLine]
  split_ifs <;> rfl

/-- What a tick of the PPU can change: the line, its place, its mode and flag, the frames, and `IF`. -/
theorem ppuTick_frame (n : Nat) (s : State) : ∃ ly acc mode hit back front q, ppuTick n s = { s with
    irq := { s.irq with flags := q }
    ppu := { s.ppu with ly := ly, acc := acc, mode := mode, coincidence := hit, back := back, front := front } } := by
  have lines : ∀ k u, ∃ ly mode hit back front q, lineBoundaries k u = { u with
      irq := { u.irq with flags := q }
      ppu := { u.ppu with ly := ly, mode := mode, coincidence := hit, back := back, front := front } } := by
    intro k
    induction k with
    | zero => exact fun u => ⟨_, _, _, _, _, _, rfl⟩
    | succ k ih =>
      intro u
      obtain ⟨ly, mode, hit, back, front, q, h⟩ := ih (lineBoundary u)
      refine ⟨ly, mode, hit, back, front, q, ?_⟩
      rw [lineBoundaries, h, lineBoundary_eq]
  unfold ppuTick
  simp only
  split
  · unfold modeInLine
    split <;> exact ⟨_, _, _, _, _, _, _, rfl⟩
  · obtain ⟨ly, mode, hit, back, front, q, h⟩ := lines ((s.ppu.acc + n) / lineCycles)
      { s with ppu := { s.ppu with acc := (s.ppu.acc + n) % lineCycles } }
    exact ⟨ly, _, mode, hit, back, front, q, h⟩

/-! ### What CPU registers, `IF` and Bus writes keep, a CPU step keeps -/

section
variable {P : State → Prop}
  (hcpu : ∀ u c, KeepsNibble u.cpu c → P u → P { u with cpu := c })
  (hbus : ∀ u u' a v, P u → busSet u a v = .ok u' → P u')
  (hirq : ∀ u q, P u → P { u with irq := { u.irq with flags := q } })
include hcpu hbus

theorem exec_induct {i : Instr} {s t : State} (hs : P s) (h : exec i s = .next t) : P t :=
  formResult_induct (L := storesAt i.form s) hcpu (fun u u' a v _ => hbus u u' a v) (fun _ h => h) hs (exec_eq_next h)

include hirq in
theorem takeInterrupt_induct {s t : State} {k : Nat} (hs : P s) (h : takeInterrupt s k = .ok t) : P t := by
  unfold takeInterrupt at h
  obtain ⟨w, hw, h⟩ := Res.bind_eq_ok.mp h
  let u : State := { s with irq := { s.irq with flags := s.irq.flags &&& ~~~((1 : Byte) <<< k) } }
  have hu : P (u.setIME false) := hcpu u _ id (hirq s _ hs)
  have hp : P w := push16_induct (s := u.setIME false) (L := [u.cpu.sp - 2, u.cpu.sp - 1]) hcpu (fun u u' a v _ => hbus u u' a v)
    List.mem_cons_self (List.mem_cons_of_mem _ List.mem_cons_self) hu hw
  exact (Except.ok.inj h) ▸ hcpu w _ id hp

include hirq in
theorem cpuStep_induct {s t : State} {c : Nat} (hs : P s) (h : cpuStep s = .next (t, c)) : P t := by
  have hx : P (haltExit s) := by rw [haltExit_eq]; exact hcpu s _ id hs
  rcases cpuStep_eq_next h with ⟨h, -⟩ | ⟨rfl, -⟩ | ⟨i, u, hf, he, -⟩
  · exact takeInterrupt_induct hcpu hbus hirq hx h
  · exact hx
  · obtain ⟨pc, rfl⟩ := fetch_eq_ok hf
    exact exec_induct (s := (haltExit s).setPC pc) hcpu hbus (hcpu (haltExit s) _ id hx) he

end

end Sys2Proof.Machine
end

