-- ==== Sys2Proof/Tests/Slice0.lean ====
section
/-! SUPPORT. Tests: what `WellFormed` refuses, words written out from the encoding lines of the rules, single steps taken from
spec/95_test_vectors.md, and for each obligation with hypotheses a concrete case that meets them. -/

namespace Sys2Proof.Tests

open Sys2Proof Sys2Proof.Machine

/-! ### WellFormed -/

/-- 30_encoding.md R54: 0x00 and 0xDC are no undefined opcode values, so no `ILLEGAL` holds them. -/
theorem test_wellFormed_refuses_illegal_of_a_defined_opcode :
    (Instr.illegal 0x00).wf = false ∧ (Instr.illegal 0xDC).wf = false ∧ (Instr.illegal 0xFD).wf = true := by decide

/-- 46_system.md R137: the prefix byte is not an instruction. -/
theorem test_wellFormed_refuses_the_prefix_byte : (Instr.prefixCB 0x37).wf = false ∧ (Instr.swap .A).wf = true := by decide

/-! ### Decoding: every row of spec/opcode_table.json, words written out from its encoding -/

/-- The instructions of consecutive first bytes, with the bytes 0xCD and 0xAB after each. -/
def decodeBlock (firsts : List Byte) : List (Option Instr) :=
  firsts.map fun op => decodeTableWord 24 (op.toNat + 0xCD * 0x100 + 0xAB * 0x10000)

theorem test_decode_00_0F : decodeBlock [0x00, 0x01, 0x02, 0x03, 0x04, 0x05, 0x06, 0x07, 0x08, 0x09, 0x0A, 0x0B, 0x0C, 0x0D, 0x0E, 0x0F] =
    [some .nop, some (.ld_BC_nn 0xABCD), some .ld_atBC_A, some .inc_BC, some .inc_B, some .dec_B, some (.ld_B_n 0xCD), some .rlca,
     some (.ld_atnn_SP 0xABCD), some .add_HL_BC, some .ld_A_atBC, some .dec_BC, some .inc_C, some .dec_C, some (.ld_C_n 0xCD),
     some .rrca] := by decide
theorem test_decode_10_1F : decodeBlock [0x10, 0x11, 0x12, 0x13, 0x14, 0x15, 0x16, 0x17, 0x18, 0x19, 0x1A, 0x1B, 0x1C, 0x1D, 0x1E, 0x1F] =
    [some .stop, some (.ld_DE_nn 0xABCD), some .ld_atDE_A, some .inc_DE, some .inc_D, some .dec_D, some (.ld_D_n 0xCD), some .rla,
     some (.jr_e 0xCD), some .add_HL_DE, some .ld_A_atDE, some .dec_DE, some .inc_E, some .dec_E, some (.ld_E_n 0xCD),
     some .rra] := by decide
theorem test_decode_20_2F : decodeBlock [0x20, 0x21, 0x22, 0x23, 0x24, 0x25, 0x26, 0x27, 0x28, 0x29, 0x2A, 0x2B, 0x2C, 0x2D, 0x2E, 0x2F] =
    [some (.jr_NZ_e 0xCD), some (.ld_HL_nn 0xABCD), some .ld_atHLinc_A, some .inc_HL, some .inc_H, some .dec_H, some (.ld_H_n 0xCD),
     some .daa, some (.jr_Z_e 0xCD), some .add_HL_HL, some .ld_A_atHLinc, some .dec_HL, some .inc_L, some .dec_L,
     some (.ld_L_n 0xCD), some .cpl] := by decide
theorem test_decode_30_3F : decodeBlock [0x30, 0x31, 0x32, 0x33, 0x34, 0x35, 0x36, 0x37, 0x38, 0x39, 0x3A, 0x3B, 0x3C, 0x3D, 0x3E, 0x3F] =
    [some (.jr_NC_e 0xCD), some (.ld_SP_nn 0xABCD), some .ld_atHLdec_A, some .inc_SP, some .inc_atHL, some .dec_atHL,
     some (.ld_atHL_n 0xCD), some .scf, some (.jr_C_e 0xCD), some .add_HL_SP, some .ld_A_atHLdec, some .dec_SP, some .inc_A,
     some .dec_A, some (.ld_A_n 0xCD), some .ccf] := by decide
theorem test_decode_40_4F : decodeBlock [0x40, 0x41, 0x42, 0x43, 0x44, 0x45, 0x46, 0x47, 0x48, 0x49, 0x4A, 0x4B, 0x4C, 0x4D, 0x4E, 0x4F] =
    [some .ld_B_B, some .ld_B_C, some .ld_B_D, some .ld_B_E, some .ld_B_H, some .ld_B_L, some .ld_B_atHL, some .ld_B_A,
     some .ld_C_B, some .ld_C_C, some .ld_C_D, some .ld_C_E, some .ld_C_H, some .ld_C_L, some .ld_C_atHL, some .ld_C_A] := by decide
theorem test_decode_50_5F : decodeBlock [0x50, 0x51, 0x52, 0x53, 0x54, 0x55, 0x56, 0x57, 0x58, 0x59, 0x5A, 0x5B, 0x5C, 0x5D, 0x5E, 0x5F] =
    [some .ld_D_B, some .ld_D_C, some .ld_D_D, some .ld_D_E, some .ld_D_H, some .ld_D_L, some .ld_D_atHL, some .ld_D_A,
     some .ld_E_B, some .ld_E_C, some .ld_E_D, some .ld_E_E, some .ld_E_H, some .ld_E_L, some .ld_E_atHL, some .ld_E_A] := by decide
theorem test_decode_60_6F : decodeBlock [0x60, 0x61, 0x62, 0x63, 0x64, 0x65, 0x66, 0x67, 0x68, 0x69, 0x6A, 0x6B, 0x6C, 0x6D, 0x6E, 0x6F] =
    [some .ld_H_B, some .ld_H_C, some .ld_H_D, some .ld_H_E, some .ld_H_H, some .ld_H_L, some .ld_H_atHL, some .ld_H_A,
     some .ld_L_B, some .ld_L_C, some .ld_L_D, some .ld_L_E, some .ld_L_H, some .ld_L_L, some .ld_L_atHL, some .ld_L_A] := by decide
theorem test_decode_70_7F : decodeBlock [0x70, 0x71, 0x72, 0x73, 0x74, 0x75, 0x76, 0x77, 0x78, 0x79, 0x7A, 0x7B, 0x7C, 0x7D, 0x7E, 0x7F] =
    [some .ld_atHL_B, some .ld_atHL_C, some .ld_atHL_D, some .ld_atHL_E, some .ld_atHL_H, some .ld_atHL_L, some .halt,
     some .ld_atHL_A, some .ld_A_B, some .ld_A_C, some .ld_A_D, some .ld_A_E, some .ld_A_H, some .ld_A_L, some .ld_A_atHL,
     some .ld_A_A] := by decide
theorem test_decode_80_8F : decodeBlock [0x80, 0x81, 0x82, 0x83, 0x84, 0x85, 0x86, 0x87, 0x88, 0x89, 0x8A, 0x8B, 0x8C, 0x8D, 0x8E, 0x8F] =
    [some .add_A_B, some .add_A_C, some .add_A_D, some .add_A_E, some .add_A_H, some .add_A_L, some .add_A_atHL,
     some .add_A_A, some .adc_A_B, some .adc_A_C, some .adc_A_D, some .adc_A_E, some .adc_A_H, some .adc_A_L,
     some .adc_A_atHL, some .adc_A_A] := by decide
theorem test_decode_90_9F : decodeBlock [0x90, 0x91, 0x92, 0x93, 0x94, 0x95, 0x96, 0x97, 0x98, 0x99, 0x9A, 0x9B, 0x9C, 0x9D, 0x9E, 0x9F] =
    [some .sub_B, some .sub_C, some .sub_D, some .sub_E, some .sub_H, some .sub_L, some .sub_atHL, some .sub_A,
     some .sbc_A_B, some .sbc_A_C, some .sbc_A_D, some .sbc_A_E, some .sbc_A_H, some .sbc_A_L, some .sbc_A_atHL,
     some .sbc_A_A] := by decide
theorem test_decode_A0_AF : decodeBlock [0xA0, 0xA1, 0xA2, 0xA3, 0xA4, 0xA5, 0xA6, 0xA7, 0xA8, 0xA9, 0xAA, 0xAB, 0xAC, 0xAD, 0xAE, 0xAF] =
    [some .and_B, some .and_C, some .and_D, some .and_E, some .and_H, some .and_L, some .and_atHL, some .and_A, some .xor_B,
     some .xor_C, some .xor_D, some .xor_E, some .xor_H, some .xor_L, some .xor_atHL, some .xor_A] := by decide
theorem test_decode_B0_BF : decodeBlock [0xB0, 0xB1, 0xB2, 0xB3, 0xB4, 0xB5, 0xB6, 0xB7, 0xB8, 0xB9, 0xBA, 0xBB, 0xBC, 0xBD, 0xBE, 0xBF] =
    [some .or_B, some .or_C, some .or_D, some .or_E, some .or_H, some .or_L, some .or_atHL, some .or_A, some .cp_B,
     some .cp_C, some .cp_D, some .cp_E, some .cp_H, some .cp_L, some .cp_atHL, some .cp_A] := by decide
theorem test_decode_C0_CF : decodeBlock [0xC0, 0xC1, 0xC2, 0xC3, 0xC4, 0xC5, 0xC6, 0xC7, 0xC8, 0xC9, 0xCA, 0xCB, 0xCC, 0xCD, 0xCE, 0xCF] =
    [some .ret_NZ, some .pop_BC, some (.jp_NZ_nn 0xABCD), some (.jp_nn 0xABCD), some (.call_NZ_nn 0xABCD), some .push_BC,
     some (.add_A_n 0xCD), some .rst_00H, some .ret_Z, some .ret, some (.jp_Z_nn 0xABCD), some (.set_1 .L),
     some (.call_Z_nn 0xABCD), some (.call_nn 0xABCD), some (.adc_A_n 0xCD), some .rst_08H] := by decide
theorem test_decode_D0_DF : decodeBlock [0xD0, 0xD1, 0xD2, 0xD3, 0xD4, 0xD5, 0xD6, 0xD7, 0xD8, 0xD9, 0xDA, 0xDB, 0xDC, 0xDD, 0xDE, 0xDF] =
    [some .ret_NC, some .pop_DE, some (.jp_NC_nn 0xABCD), some (.illegal 0xD3), some (.call_NC_nn 0xABCD), some .push_DE,
     some (.sub_n 0xCD), some .rst_10H, some .ret_C, some .reti, some (.jp_C_nn 0xABCD), some (.illegal 0xDB),
     some (.call_C_nn 0xABCD), some (.illegal 0xDD), some (.sbc_A_n 0xCD), some .rst_18H] := by decide
theorem test_decode_E0_EF : decodeBlock [0xE0, 0xE1, 0xE2, 0xE3, 0xE4, 0xE5, 0xE6, 0xE7, 0xE8, 0xE9, 0xEA, 0xEB, 0xEC, 0xED, 0xEE, 0xEF] =
    [some (.ldh_atn_A 0xCD), some .pop_HL, some .ldh_atC_A, some (.illegal 0xE3), some (.illegal 0xE4), some .push_HL,
     some (.and_n 0xCD), some .rst_20H, some (.add_SP_e 0xCD), some .jp_HL, some (.ld_atnn_A 0xABCD), some (.illegal 0xEB),
     some (.illegal 0xEC), some (.illegal 0xED), some (.xor_n 0xCD), some .rst_28H] := by decide
theorem test_decode_F0_FF : decodeBlock [0xF0, 0xF1, 0xF2, 0xF3, 0xF4, 0xF5, 0xF6, 0xF7, 0xF8, 0xF9, 0xFA, 0xFB, 0xFC, 0xFD, 0xFE, 0xFF] =
    [some (.ldh_A_atn 0xCD), some .pop_AF, some .ldh_A_atC, some .di, some (.illegal 0xF4), some .push_AF,
     some (.or_n 0xCD), some .rst_30H, some (.ld_HL_SPe 0xCD), some .ld_SP_HL, some (.ld_A_atnn 0xABCD), some .ei,
     some (.illegal 0xFC), some (.illegal 0xFD), some (.cp_n 0xCD), some .rst_38H] := by decide

/-- The prefixed instructions of these second bytes. -/
def decodePrefixed (seconds : List Byte) : List (Option Instr) := seconds.map fun op2 => decodeTableWord 16 (0xCB + op2.toNat * 0x100)

theorem test_decode_CB_00_3F : decodePrefixed
    [0x00, 0x06, 0x09, 0x0E, 0x12, 0x16, 0x1B, 0x1E, 0x24, 0x26, 0x2D, 0x2E, 0x30, 0x36, 0x3E, 0x3F] =
    [some (.rlc .B), some (.rlc .atHL), some (.rrc .C), some (.rrc .atHL), some (.rl .D), some (.rl .atHL), some (.rr .E),
     some (.rr .atHL), some (.sla .H), some (.sla .atHL), some (.sra .L), some (.sra .atHL), some (.swap .B),
     some (.swap .atHL), some (.srl .atHL), some (.srl .A)] := by decide
theorem test_decode_CB_40_7F : decodePrefixed
    [0x40, 0x46, 0x49, 0x4E, 0x52, 0x56, 0x5B, 0x5E, 0x64, 0x66, 0x6D, 0x6E, 0x70, 0x76, 0x7E, 0x7F] =
    [some (.bit_0 .B), some (.bit_0 .atHL), some (.bit_1 .C), some (.bit_1 .atHL), some (.bit_2 .D), some (.bit_2 .atHL),
     some (.bit_3 .E), some (.bit_3 .atHL), some (.bit_4 .H), some (.bit_4 .atHL), some (.bit_5 .L), some (.bit_5 .atHL),
     some (.bit_6 .B), some (.bit_6 .atHL), some (.bit_7 .atHL), some (.bit_7 .A)] := by decide
theorem test_decode_CB_80_BF : decodePrefixed
    [0x80, 0x86, 0x89, 0x8E, 0x92, 0x96, 0x9B, 0x9E, 0xA4, 0xA6, 0xAD, 0xAE, 0xB0, 0xB6, 0xBE, 0xBF] =
    [some (.res_0 .B), some (.res_0 .atHL), some (.res_1 .C), some (.res_1 .atHL), some (.res_2 .D), some (.res_2 .atHL),
     some (.res_3 .E), some (.res_3 .atHL), some (.res_4 .H), some (.res_4 .atHL), some (.res_5 .L), some (.res_5 .atHL),
     some (.res_6 .B), some (.res_6 .atHL), some (.res_7 .atHL), some (.res_7 .A)] := by decide
theorem test_decode_CB_C0_FF : decodePrefixed
    [0xC0, 0xC6, 0xC9, 0xCE, 0xD2, 0xD6, 0xDB, 0xDE, 0xE4, 0xE6, 0xED, 0xEE, 0xF0, 0xF6, 0xFE, 0xFF] =
    [some (.set_0 .B), some (.set_0 .atHL), some (.set_1 .C), some (.set_1 .atHL), some (.set_2 .D), some (.set_2 .atHL),
     some (.set_3 .E), some (.set_3 .atHL), some (.set_4 .H), some (.set_4 .atHL), some (.set_5 .L), some (.set_5 .atHL),
     some (.set_6 .B), some (.set_6 .atHL), some (.set_7 .atHL), some (.set_7 .A)] := by decide

/-! ### Single steps: the vectors of spec/95_test_vectors.md (each test names its section) -/

/-- The CPU registers of that file's start state. -/
def start : Cpu :=
  { a := 0, f := 0, b := 0, c := 0, d := 0, e := 0, h := 0, l := 0, sp := 0xDFF0, pc := 0xC000, ime := false, halted := false }

/-- That file's start state with these registers, these bytes of storage, and the instruction's bytes at 0xC000. -/
def machine (cpu : Cpu) (cells : List (Nat × Byte)) (bytes : List Byte) : State :=
  let s := { State.reset with cpu := cpu, bootEnabled := false, mem := cells.foldl (fun m x => Memory.set m x.1 x.2) [] }
  placeBytes s 0xC000 bytes

/-- One `CPU.Step` of that state: what `view` shows of the state after it, and the cycles. -/
def ran {α : Type} (view : State → α) (cpu : Cpu) (cells : List (Nat × Byte)) (bytes : List Byte) : Option (α × Nat) :=
  match cpuStep (machine cpu cells bytes) with
  | .next (s, c) => some (view s, c)
  | .fault _ => none
  | .refused _ => none

/-- `A` and `F`. -/
def af (s : State) : Byte × Byte := (s.cpu.a, s.cpu.f)

/-- `PC` and `SP`. -/
def pcsp (s : State) : Word × Word := (s.cpu.pc, s.cpu.sp)

-- section 2.1
theorem test_ld_B_A : ran (fun s => (s.cpu.b, s.cpu.pc)) { start with a := 0x5A } [] [0x47] = some ((0x5A, 0xC001), 4) := by decide
theorem test_ld_A_atHL : ran (fun s => (s.cpu.a, s.cpu.pc)) { start with h := 0xC1 } [(0xC100, 0x77)] [0x7E] = some ((0x77, 0xC001), 8) := by decide
theorem test_ld_atHL_E : ran (fun s => s.peek 0xC100) { start with h := 0xC1, e := 0x9C } [] [0x73] = some (0x9C, 8) := by decide
theorem test_ld_atHL_n : ran (fun s => (s.peek 0xFF80, s.cpu.pc)) { start with h := 0xFF, l := 0x80 } [] [0x36, 0xAB] = some ((0xAB, 0xC002), 12) := by decide
theorem test_ld_H_atHL : ran (fun s => s.hl) { start with h := 0xC1 } [(0xC100, 0x12)] [0x66] = some (0x1200, 8) := by decide
theorem test_ld_A_atBC : ran (fun s => s.cpu.a) { start with b := 0xC2, c := 0x34 } [(0xC234, 0x42)] [0x0A] = some (0x42, 8) := by decide
theorem test_ld_atDE_A_mirror : ran (fun s => s.peek 0xC010) { start with d := 0xE0, e := 0x10, a := 0x99 } [] [0x12] = some (0x99, 8) := by decide
theorem test_ld_A_atnn : ran (fun s => (s.cpu.a, s.cpu.pc)) start [(0xC234, 0x42)] [0xFA, 0x34, 0xC2] = some ((0x42, 0xC003), 16) := by decide
theorem test_ld_atnn_A_mbc1 : ran (fun s => (s.mbc.romBankLo, s.peek 0x102000)) { start with a := 0x05 } [] [0xEA, 0x00, 0x20] = some ((0x05, 0x00), 16) := by decide
theorem test_ldh_atn_A : ran (fun s => s.peek 0xFF80) { start with a := 0x3C } [] [0xE0, 0x80] = some (0x3C, 12) := by decide
theorem test_ldh_A_atn_unmapped : ran (fun s => s.cpu.a) start [] [0xF0, 0x10] = some (0xFF, 12) := by decide
theorem test_ldh_A_atC : ran (fun s => s.cpu.a) { start with c := 0x81 } [(0xFF81, 0x7D)] [0xF2] = some (0x7D, 8) := by decide
theorem test_ldh_atC_A_ie : ran (fun s => s.irq.enable) { start with c := 0xFF, a := 0xE5 } [] [0xE2] = some (0xE5, 8) := by decide
theorem test_ld_atHLinc_A_wrap : ran (fun s => (s.irq.enable, s.hl)) { start with h := 0xFF, l := 0xFF, a := 0x15 } [] [0x22] = some ((0x15, 0x0000), 8) := by decide
theorem test_ld_A_atHLdec_wrap : ran (fun s => (s.cpu.a, s.hl)) { start with a := 0x77 } [] [0x3A] = some ((0x00, 0xFFFF), 8) := by decide
theorem test_ld_A_atHLinc : ran (fun s => (s.cpu.a, s.hl)) { start with h := 0xC1, l := 0xFF } [(0xC1FF, 0x66)] [0x2A] = some ((0x66, 0xC200), 8) := by decide
theorem test_ld_atHLdec_A : ran (fun s => (s.peek 0xC100, s.hl)) { start with h := 0xC1, a := 0x01 } [] [0x32] = some ((0x01, 0xC0FF), 8) := by decide
-- section 2.2
theorem test_ld_HL_nn : ran (fun s => (s.cpu.h, s.cpu.l, s.cpu.pc)) start [] [0x21, 0xCD, 0xAB] = some ((0xAB, 0xCD, 0xC003), 12) := by decide
theorem test_ld_atnn_SP : ran (fun s => (s.peek 0xC100, s.peek 0xC101)) { start with sp := 0xFFF8 } [] [0x08, 0x00, 0xC1] = some ((0xF8, 0xFF), 20) := by decide
theorem test_ld_SP_HL : ran (fun s => s.cpu.sp) { start with h := 0xD1, l := 0x23 } [] [0xF9] = some (0xD123, 8) := by decide
theorem test_ld_HL_SPe_minus_one : ran (fun s => (s.hl, s.cpu.f, s.cpu.sp)) { start with sp := 0x0001, f := 0xC0 } [] [0xF8, 0xFF] = some ((0x0000, 0x30, 0x0001), 12) := by decide
theorem test_ld_HL_SPe_plus_two : ran (fun s => (s.hl, s.cpu.f)) { start with sp := 0xFFF8 } [] [0xF8, 0x02] = some ((0xFFFA, 0x00), 12) := by decide
theorem test_push_AF : ran (fun s => (s.cpu.sp, s.peek 0xCFFE, s.peek 0xCFFF)) { start with a := 0x12, f := 0xF0, sp := 0xD000 } [] [0xF5] = some ((0xCFFE, 0xF0, 0x12), 16) := by decide
theorem test_pop_AF_drops_low_nibble : ran (fun s => (s.cpu.a, s.cpu.f, s.cpu.sp)) { start with sp := 0xCFFE } [(0xCFFE, 0xFF), (0xCFFF, 0x12)] [0xF1] = some ((0x12, 0xF0, 0xD000), 12) := by decide
theorem test_push_BC_across_the_top : ran (fun s => (s.cpu.sp, s.irq.enable, s.mbc.ramEnabled)) { start with b := 0xA1, c := 0xB2, sp := 0x0001 } [] [0xC5] = some ((0xFFFF, 0xB2, false), 16) := by decide
-- section 2.3
theorem test_add_A_B : ran af { start with a := 0x3A, b := 0xC6 } [] [0x80] = some ((0x00, 0xB0), 4) := by decide
theorem test_add_A_n : ran af { start with a := 0x0F } [] [0xC6, 0x01] = some ((0x10, 0x20), 8) := by decide
theorem test_adc_A_n : ran af { start with a := 0xF0, f := 0x10 } [] [0xCE, 0x0F] = some ((0x00, 0xB0), 8) := by decide
theorem test_adc_A_atHL : ran af { start with a := 0xFF, h := 0xC1, f := 0x10 } [(0xC100, 0xFF)] [0x8E] = some ((0xFF, 0x30), 8) := by decide
theorem test_sub_n : ran af { start with a := 0x3E } [] [0xD6, 0x0F] = some ((0x2F, 0x60), 8) := by decide
theorem test_sub_B : ran af { start with a := 0x00, b := 0x01 } [] [0x90] = some ((0xFF, 0x70), 4) := by decide
theorem test_sbc_A_n : ran af { start with a := 0x10, f := 0x10 } [] [0xDE, 0x0F] = some ((0x00, 0xE0), 8) := by decide
theorem test_sbc_A_H : ran af { start with a := 0x3B, h := 0x2A, f := 0x10 } [] [0x9C] = some ((0x10, 0x40), 4) := by decide
theorem test_and_n : ran af { start with a := 0xF0, f := 0x70 } [] [0xE6, 0x0F] = some ((0x00, 0xA0), 8) := by decide
theorem test_xor_atHL : ran af { start with a := 0xFF, h := 0xC1 } [(0xC100, 0x0F)] [0xAE] = some ((0xF0, 0x00), 8) := by decide
theorem test_or_n : ran af { start with a := 0x18 } [] [0xF6, 0x81] = some ((0x99, 0x00), 8) := by decide
theorem test_cp_n_less : ran af { start with a := 0x3C } [] [0xFE, 0x40] = some ((0x3C, 0x50), 8) := by decide
theorem test_cp_n_half_borrow : ran af { start with a := 0x3C } [] [0xFE, 0x2F] = some ((0x3C, 0x60), 8) := by decide
theorem test_inc_A : ran af { start with a := 0xFF, f := 0x50 } [] [0x3C] = some ((0x00, 0xB0), 4) := by decide
theorem test_inc_atHL : ran (fun s => (s.peek 0xC100, s.cpu.f)) { start with h := 0xC1 } [(0xC100, 0x4F)] [0x34] = some ((0x50, 0x20), 12) := by decide
theorem test_dec_C : ran (fun s => (s.cpu.c, s.cpu.f)) { start with f := 0x10 } [] [0x0D] = some ((0xFF, 0x70), 4) := by decide
theorem test_dec_atHL : ran (fun s => (s.peek 0xC100, s.cpu.f)) { start with h := 0xC1 } [(0xC100, 0x10)] [0x35] = some ((0x0F, 0x60), 12) := by decide
theorem test_daa_add : ran af { start with a := 0x9A } [] [0x27] = some ((0x00, 0x90), 4) := by decide
theorem test_daa_subtract : ran af { start with a := 0xFF, f := 0x70 } [] [0x27] = some ((0x99, 0x50), 4) := by decide
theorem test_cpl : ran af { start with a := 0x35, f := 0x90 } [] [0x2F] = some ((0xCA, 0xF0), 4) := by decide
theorem test_scf : ran af { start with f := 0xE0 } [] [0x37] = some ((0x00, 0x90), 4) := by decide
theorem test_ccf : ran af { start with f := 0xF0 } [] [0x3F] = some ((0x00, 0x80), 4) := by decide
-- section 2.4
theorem test_add_HL_BC : ran (fun s => (s.hl, s.cpu.f)) { start with h := 0x8A, l := 0x23, b := 0x06, c := 0x05, f := 0xC0 } [] [0x09] = some ((0x9028, 0xA0), 8) := by decide
theorem test_add_HL_SP : ran (fun s => (s.hl, s.cpu.f)) { start with h := 0xFF, l := 0xFF, sp := 0x0001, f := 0x80 } [] [0x39] = some ((0x0000, 0xB0), 8) := by decide
theorem test_inc_BC_wrap : ran (fun s => (s.bc, s.cpu.f)) { start with b := 0xFF, c := 0xFF } [] [0x03] = some ((0x0000, 0x00), 8) := by decide
theorem test_dec_SP_wrap : ran (fun s => (s.cpu.sp, s.cpu.f)) { start with sp := 0x0000, f := 0xF0 } [] [0x3B] = some ((0xFFFF, 0xF0), 8) := by decide
theorem test_add_SP_e : ran (fun s => (s.cpu.sp, s.cpu.f)) { start with sp := 0xD00F, f := 0xC0 } [] [0xE8, 0xF1] = some ((0xD000, 0x30), 16) := by decide
theorem test_add_SP_e_minus_128 : ran (fun s => (s.cpu.sp, s.cpu.f)) { start with sp := 0x0080 } [] [0xE8, 0x80] = some ((0x0000, 0x10), 16) := by decide
-- section 2.5
theorem test_rlca : ran af { start with a := 0x85, f := 0xE0 } [] [0x07] = some ((0x0B, 0x10), 4) := by decide
theorem test_rrca : ran af { start with a := 0x3B } [] [0x0F] = some ((0x9D, 0x10), 4) := by decide
theorem test_rla : ran af { start with a := 0x95, f := 0x10 } [] [0x17] = some ((0x2B, 0x10), 4) := by decide
theorem test_rra : ran af { start with a := 0x81 } [] [0x1F] = some ((0x40, 0x10), 4) := by decide
theorem test_rlc_B : ran (fun s => (s.cpu.b, s.cpu.f)) { start with b := 0x85 } [] [0xCB, 0x00] = some ((0x0B, 0x10), 8) := by decide
theorem test_rrc_atHL : ran (fun s => (s.peek 0xC100, s.cpu.f)) { start with h := 0xC1 } [(0xC100, 0x01)] [0xCB, 0x0E] = some ((0x80, 0x10), 16) := by decide
theorem test_rl_C : ran (fun s => (s.cpu.c, s.cpu.f)) { start with c := 0x11, f := 0x10 } [] [0xCB, 0x11] = some ((0x23, 0x00), 8) := by decide
theorem test_rr_D : ran (fun s => (s.cpu.d, s.cpu.f)) { start with d := 0x8A, f := 0x10 } [] [0xCB, 0x1A] = some ((0xC5, 0x00), 8) := by decide
theorem test_sla_D : ran (fun s => (s.cpu.d, s.cpu.f)) { start with d := 0x80 } [] [0xCB, 0x22] = some ((0x00, 0x10), 8) := by decide
theorem test_sra_A : ran af { start with a := 0x8A } [] [0xCB, 0x2F] = some ((0xC5, 0x00), 8) := by decide
theorem test_swap_A : ran af { start with a := 0xF1, f := 0x70 } [] [0xCB, 0x37] = some ((0x1F, 0x00), 8) := by decide
theorem test_srl_L : ran (fun s => (s.cpu.l, s.cpu.f)) { start with l := 0xFF, f := 0xE0 } [] [0xCB, 0x3D] = some ((0x7F, 0x10), 8) := by decide
theorem test_bit_7_A : ran af { start with a := 0x80, f := 0x50 } [] [0xCB, 0x7F] = some ((0x80, 0x30), 8) := by decide
theorem test_bit_0_atHL : ran (fun s => (s.peek 0xC100, s.cpu.f)) { start with h := 0xC1 } [(0xC100, 0xFE)] [0xCB, 0x46] = some ((0xFE, 0xA0), 12) := by decide
theorem test_res_1_atHL : ran (fun s => s.peek 0xC100) { start with h := 0xC1 } [(0xC100, 0xFF)] [0xCB, 0x8E] = some (0xFD, 16) := by decide
theorem test_set_7_L : ran (fun s => s.cpu.l) { start with l := 0x3B } [] [0xCB, 0xFD] = some (0xBB, 8) := by decide
/-- `ROT_Z_POLICY = result_zero`: `SRL A` of 1 sets Z. -/
theorem test_rotZPolicy_resultZero :
    zr .resultZero (rotResult .srl 0x01 false).1 = true ∧ zr .alwaysClear (rotResult .srl 0x01 false).1 = false := by decide
-- section 2.6
theorem test_jp_nn : ran pcsp start [] [0xC3, 0x50, 0x01] = some ((0x0150, 0xDFF0), 16) := by decide
theorem test_jp_NZ_not_taken : ran pcsp { start with f := 0x80 } [] [0xC2, 0x00, 0x80] = some ((0xC003, 0xDFF0), 12) := by decide
theorem test_jp_C_taken : ran pcsp { start with f := 0x10 } [] [0xDA, 0x34, 0x12] = some ((0x1234, 0xDFF0), 16) := by decide
theorem test_jp_HL : ran pcsp { start with h := 0x80 } [] [0xE9] = some ((0x8000, 0xDFF0), 4) := by decide
theorem test_jr_minus_128 : ran pcsp start [] [0x18, 0x80] = some ((0xBF82, 0xDFF0), 12) := by decide
theorem test_jr_Z_taken : ran pcsp { start with f := 0x80 } [] [0x28, 0x10] = some ((0xC012, 0xDFF0), 12) := by decide
theorem test_jr_NC_backwards : ran pcsp start [] [0x30, 0xFB] = some ((0xBFFD, 0xDFF0), 12) := by decide
theorem test_call_nn : ran (fun s => (pcsp s, s.peek 0xDFFD, s.peek 0xDFFE)) { start with sp := 0xDFFF } [] [0xCD, 0x34, 0x12] = some (((0x1234, 0xDFFD), 0x03, 0xC0), 24) := by decide
theorem test_call_Z_not_taken : ran pcsp start [] [0xCC, 0x34, 0x12] = some ((0xC003, 0xDFF0), 12) := by decide
theorem test_ret : ran pcsp { start with sp := 0xCFFE } [(0xCFFE, 0x03), (0xCFFF, 0xC0)] [0xC9] = some ((0xC003, 0xD000), 16) := by decide
theorem test_ret_C_taken : ran pcsp { start with sp := 0xCFFE, f := 0x10 } [(0xCFFE, 0x03), (0xCFFF, 0xC0)] [0xD8] = some ((0xC003, 0xD000), 20) := by decide
theorem test_reti : ran (fun s => (pcsp s, s.cpu.ime)) { start with sp := 0xCFFE } [(0xCFFE, 0x9A), (0xCFFF, 0xC1)] [0xD9] = some (((0xC19A, 0xD000), true), 16) := by decide
theorem test_rst_28H : ran (fun s => (pcsp s, s.peek 0xCFFE, s.peek 0xCFFF)) { start with sp := 0xD000 } [] [0xEF] = some (((0x0028, 0xCFFE), 0x01, 0xC0), 16) := by decide
-- section 2.7
theorem test_nop : ran (fun s => (s.cpu.pc, s.cpu.f)) { start with f := 0xF0 } [] [0x00] = some ((0xC001, 0xF0), 4) := by decide
theorem test_halt : ran (fun s => (s.cpu.pc, s.cpu.halted)) start [] [0x76] = some ((0xC001, true), 4) := by decide
theorem test_stop : ran (fun s => (s.cpu.pc, s.cpu.halted)) start [] [0x10, 0x00] = some ((0xC001, true), 4) := by decide
theorem test_di : ran (fun s => s.cpu.ime) { start with ime := true } [] [0xF3] = some (false, 4) := by decide
theorem test_ei : ran (fun s => s.cpu.ime) start [] [0xFB] = some (true, 4) := by decide
theorem test_illegal : cpuStep (machine start [] [0xD3]) = .fault (.undefinedOpcode 0xD3 0xC000 (machine { start with pc := 0xC001 } [] [0xD3])) := by rfl

/-- The same, with interrupt bytes. -/
def ranIrq {α : Type} (view : State → α) (cpu : Cpu) (flags enable : Byte) (bytes : List Byte) : Option (α × Nat) :=
  match cpuStep { machine cpu [] bytes with irq := { flags := flags, enable := enable } } with
  | .next (s, c) => some (view s, c)
  | .fault _ => none
  | .refused _ => none

-- S8 and section 3.1
theorem test_interrupt_priority :
    ranIrq (fun s => (s.irq.flags, s.cpu.ime, s.cpu.pc, s.peek 0xCFFE, s.peek 0xCFFF)) { start with ime := true, pc := 0xC123, sp := 0xD000 }
      0x05 0x1F [] = some ((0x04, false, 0x0040, 0x23, 0xC1), 20) := by decide
theorem test_unused_flags_do_not_dispatch :
    ranIrq (fun s => (s.cpu.pc, s.irq.flags)) { start with ime := true } 0xE0 0x1F [0x00] = some ((0xC001, 0xE0), 4) := by decide
theorem test_halt_wakes_with_ime_clear :
    ranIrq (fun s => (s.cpu.halted, s.cpu.a, s.cpu.pc, s.irq.flags)) { start with halted := true } 0x04 0x04 [0x3C] =
      some ((false, 0x01, 0xC001, 0x04), 4) := by decide
theorem test_halt_pending_not_enabled :
    ranIrq (fun s => (s.cpu.halted, s.cpu.pc)) { start with halted := true, ime := true } 0x04 0x00 [0x3C] = some ((true, 0xC000), 4) := by decide
theorem test_dispatch_with_the_stack_on_IE :
    ranIrq (fun s => (pcsp s, s.irq.enable, s.mbc.ramEnabled)) { start with ime := true, pc := 0x1234, sp := 0x0001 } 0x01 0x01 [] =
      some (((0x0040, 0xFFFF), 0x34, false), 20) := by decide

-- section 3.2
theorem test_timer_thresholds :
    [0x04#8, 0x05#8, 0x06#8, 0x07#8].map (fun tac =>
      let s := { machine start [] [] with timer := { div := 0, tima := 0, tma := 0, tac := tac, divSub := 0, timaSub := 0 } }
      let n := timaThreshold tac - 4
      ((timerTick n s).timer.tima, (timerTick 4 (timerTick n s)).timer.tima)) = [(0, 1), (0, 1), (0, 1), (0, 1)] := by decide
theorem test_timer_overflows_in_one_tick :
    (let t := timerTick 64 { machine start [] [] with timer := { div := 0, tima := 0xFE, tma := 0xFE, tac := 0x05, divSub := 0, timaSub := 0 } }
     (t.timer.tima, t.irq.flags)) = (0xFE, 0x04) := by decide
-- section 3.3
theorem test_lyc_request :
    (let s := { machine start [] [] with ppu := { Ppu.launch .boot with lyc := 2, statW := 0x40 } }
     let t := ppuTick 912 s
     (t.ppu.ly, statByte t.ppu, t.irq.flags, statByte (ppuTick 100 t).ppu)) = (2, 0x44, 0x02, 0x47) := by decide
theorem test_stat_write : statByte (ppuSet (Ppu.launch .boot) 0xFF 1) = 0xFA := by decide

/-- The machine of section 3.4: tile 1 with its two rows and the map entry 0. -/
def picture (lcdc : Byte) (oam : List (Nat × Byte)) : State :=
  { machine start ([(0x8010, 0x3C), (0x8011, 0x7E), (0x8012, 0xFF), (0x9800, 0x01)] ++ oam) [] with
    ppu := { Ppu.launch .boot with lcdc := lcdc, bgp := 0xE4, obp0 := 0xE4, obp1 := 0x1B } }

-- section 3.4
theorem test_render_line_0 : (List.range 10).map (pixelShade (picture 0x91 []) 0) = [0, 2, 3, 3, 3, 3, 2, 0, 0, 0] := by decide
theorem test_render_line_1 : (List.range 10).map (pixelShade (picture 0x91 []) 1) = [1, 1, 1, 1, 1, 1, 1, 1, 0, 0] := by decide
theorem test_render_background_off : (List.range 10).map (pixelShade (picture 0x90 []) 0) = [0, 0, 0, 0, 0, 0, 0, 0, 0, 0] := by decide

/-- The sprite machine of section 3.4: tiles 1 to 3 (row 0), the map all zero. -/
def sprites (lcdc : Byte) (oam : List (Nat × Byte)) : State :=
  { machine start ([(0x8010, 0x0F), (0x8020, 0xC0), (0x8021, 0xC0), (0x8030, 0xFF), (0x8031, 0xFF)] ++ oam) [] with
    ppu := { Ppu.launch .boot with lcdc := lcdc, bgp := 0xE4, obp0 := 0xE4, obp1 := 0x1B } }

theorem test_sprite_x_flip :
    (List.range 10).map (pixelShade (sprites 0x93 [(0xFE00, 0x10), (0xFE01, 0x08), (0xFE02, 0x02), (0xFE03, 0x20)]) 0) =
      [0, 0, 0, 0, 0, 0, 3, 3, 0, 0] := by decide
theorem test_sprite_y_flip_above :
    (List.range 10).map (pixelShade (sprites 0x93 [(0xFE00, 0x09), (0xFE01, 0x08), (0xFE02, 0x02), (0xFE03, 0x40)]) 0) =
      [3, 3, 0, 0, 0, 0, 0, 0, 0, 0] := by decide
theorem test_sprite_behind :
    (List.range 10).map (pixelShade (sprites 0x93 [(0x9800, 0x01), (0xFE00, 0x10), (0xFE01, 0x08), (0xFE02, 0x03), (0xFE03, 0x80)]) 0) =
      [3, 3, 3, 3, 1, 1, 1, 1, 0, 0] := by decide
theorem test_sprite_overlap :
    (List.range 14).map (pixelShade (sprites 0x93 [(0xFE00, 0x10), (0xFE01, 0x08), (0xFE02, 0x03), (0xFE04, 0x10), (0xFE05, 0x0C),
      (0xFE06, 0x03), (0xFE07, 0x10)]) 0) = [3, 3, 3, 3, 0, 0, 0, 0, 0, 0, 0, 0, 0, 0] := by decide
-- section 3.6: bank 0x21, never 0x20
theorem test_upper_bank : upperBank { romBankLo := 0, romBankHi := 1, ramBank := 0, ramEnabled := false, mode := .romBanking } = 0x21 := by decide
-- S5
theorem test_timer_reload :
    (let t := timerTick 16 { machine start [] [] with timer := { div := 0x0F, tima := 0xFF, tma := 0xAB, tac := 0x05, divSub := 240, timaSub := 0 } }
     (t.timer.tima, t.irq.flags, t.timer.div, t.timer.divSub)) = (0xAB, 0x04, 0x10, 0) := by decide
-- 60_exceptions.md R155: a press requests the Joypad interrupt, once
theorem test_button_press :
    (let s := applyEvent (machine start [] []) (.buttonDown .start)
     (s.joypad.buttons, s.irq.flags, (applyEvent { s with irq := { s.irq with flags := 0 } } (.buttonDown .start)).irq.flags)) = (0x80, 0x10, 0) := by decide

/-! ### For each obligation with hypotheses: cases that meet them -/

/-- Whether an operation answers. -/
def ok {α : Type} : Res α → Bool
  | .ok _ => true
  | .error _ => false

theorem exists_ok {α : Type} {x : Res α} (h : ok x = true) : ∃ t, x = .ok t := by
  cases x with
  | ok t => exact ⟨t, rfl⟩
  | error r => exact absurd (show false = true from h) (by decide)

/-- What an operation answers. -/
def answer : Res Byte → Option Byte
  | .ok v => some v
  | .error _ => none

theorem answer_ok {x : Res Byte} {v : Byte} (h : answer x = some v) : x = .ok v := by
  cases x with
  | ok w => exact congrArg _ (Option.some.inj h)
  | error r => exact nomatch h

theorem exists_ok_ok {α β : Type} {x : Res α} {f : α → Res β} (h : ok (x >>= f) = true) : ∃ t u, x = .ok t ∧ f t = .ok u := by
  cases x with
  | ok t => exact (exists_ok h).elim fun u hu => ⟨t, u, rfl, hu⟩
  | error r => exact absurd (show false = true from h) (by decide)

/-- Whether an instruction answers a next state. -/
def completes (i : Instr) (s : State) : Bool :=
  match exec i s with
  | .next _ => true
  | .fault _ => false
  | .refused _ => false

theorem exists_next {i : Instr} {s : State} (h : completes i s = true) : ∃ t, exec i s = .next t := by
  unfold completes at h
  split at h
  · exact ⟨_, by assumption⟩
  · exact absurd h (by decide)
  · exact absurd h (by decide)

theorem test_witness_DecodeOfEncode : (Instr.ld_B_n 0xFF).wf = true ∧ (Instr.illegal 0xD3).wf = true ∧ (Instr.set_7 .A).wf = true := by decide

theorem test_witness_EncodeOfDecode : decode [0xCB, 0xFF, 0x00] = .ok (.set_7 .A, [0x00]) ∧
    decode [0x08, 0xFF, 0xFF] = .ok (.ld_atnn_SP 0xFFFF, []) :=
  ⟨rfl, rfl⟩

theorem test_witness_UnprefixedMap : (0xCA : Byte) ≠ 0xCB ∧ (0xCC : Byte) ≠ 0xCB := by decide

def stateStepRuns : State := machine start [] [0x06, 0x12]
def stateStepRuns2 : State := { machine { start with halted := true } [] [0x3C] with irq := { flags := 0x04, enable := 0x04 } }

/-- A running machine, and a halted one that a ripe interrupt wakes with `IME = 0`. -/
theorem test_witness_StepRuns :
    (stateStepRuns.cpu.ime = false ∧ stateStepRuns.cpu.halted = false ∧ busHolds stateStepRuns stateStepRuns.cpu.pc [0x06, 0x12] ∧
    decode [0x06, 0x12] = .ok (.ld_B_n 0x12, [])) ∧
    (stateStepRuns2.cpu.halted = true ∧ stateStepRuns2.ripe ≠ 0 ∧ stateStepRuns2.cpu.ime = false ∧
    busHolds { stateStepRuns2 with cpu := { stateStepRuns2.cpu with halted := false } } stateStepRuns2.cpu.pc [0x3C] ∧
     decode [0x3C] = .ok (.inc_A, [])) :=
  ⟨⟨rfl, rfl, ⟨answer_ok (by decide), answer_ok (by decide), trivial⟩, rfl⟩, ⟨rfl, by decide, rfl, ⟨answer_ok (by decide), trivial⟩, rfl⟩⟩

def stateInterruptDispatch : State := { machine { start with ime := true } [] [] with irq := { flags := 0xFF, enable := 0x01 } }
def stateInterruptDispatch2 : State := { machine { start with ime := true, halted := true } [] [] with irq := { flags := 0x1F, enable := 0xF0 } }

/-- The source 0, with flags beyond the five, and the source 4, halted, with others pending that are not enabled. -/
theorem test_witness_InterruptDispatch :
    (stateInterruptDispatch.cpu.ime = true ∧ (stateInterruptDispatch.irq.enable &&& stateInterruptDispatch.irq.flags).getLsbD 0 = true ∧
     ∃ t, busSet16 { stateInterruptDispatch with
        irq := { stateInterruptDispatch.irq with flags := stateInterruptDispatch.irq.flags &&& ~~~((1 : Byte) <<< 0) }
        cpu := { stateInterruptDispatch.cpu with ime := false, halted := false, sp := stateInterruptDispatch.cpu.sp - 2 } } (stateInterruptDispatch.cpu.sp - 2) stateInterruptDispatch.cpu.pc = .ok t) ∧
    (stateInterruptDispatch2.cpu.ime = true ∧ (stateInterruptDispatch2.irq.enable &&& stateInterruptDispatch2.irq.flags).getLsbD 4 = true ∧
    (∀ j < 4, (stateInterruptDispatch2.irq.enable &&& stateInterruptDispatch2.irq.flags).getLsbD j = false) ∧
     ∃ t, busSet16 { stateInterruptDispatch2 with
        irq := { stateInterruptDispatch2.irq with flags := stateInterruptDispatch2.irq.flags &&& ~~~((1 : Byte) <<< 4) }
        cpu := { stateInterruptDispatch2.cpu with ime := false, halted := false, sp := stateInterruptDispatch2.cpu.sp - 2 } } (stateInterruptDispatch2.cpu.sp - 2) stateInterruptDispatch2.cpu.pc = .ok t) :=
  ⟨⟨rfl, rfl, exists_ok rfl⟩, ⟨rfl, rfl, by decide, exists_ok rfl⟩⟩

def stateHaltedStepIdles : State := { machine { start with halted := true, ime := true } [] [] with irq := { flags := 0xE4, enable := 0xFB } }

theorem test_witness_HaltedStepIdles :
    (stateHaltedStepIdles.cpu.halted = true ∧ stateHaltedStepIdles.irq.enable &&& stateHaltedStepIdles.irq.flags &&& 0x1F = 0) := ⟨rfl, rfl⟩

def stateUndefinedOpcode : State := machine { start with ime := true } [] [0xFD]

/-- The same byte after a HALT that a pending interrupt ends with `IME = 0`. -/
def stateUndefinedOpcode2 : State := { machine { start with halted := true } [] [0xFD] with irq := { flags := 0x10, enable := 0x10 } }

theorem test_witness_UndefinedOpcode :
    ((stateUndefinedOpcode.cpu.ime = false ∨ stateUndefinedOpcode.irq.enable &&& stateUndefinedOpcode.irq.flags &&& 0x1F = 0) ∧
      stateUndefinedOpcode.cpu.halted = false ∧ busGet stateUndefinedOpcode stateUndefinedOpcode.cpu.pc = .ok 0xFD) ∧
    ((stateUndefinedOpcode2.cpu.ime = false ∨ stateUndefinedOpcode2.irq.enable &&& stateUndefinedOpcode2.irq.flags &&& 0x1F = 0) ∧
      stateUndefinedOpcode2.cpu.halted = true ∧ stateUndefinedOpcode2.irq.enable &&& stateUndefinedOpcode2.irq.flags &&& 0x1F ≠ 0 ∧
      busGet stateUndefinedOpcode2 stateUndefinedOpcode2.cpu.pc = .ok 0xFD) ∧
    (0xFD : Byte) ∈ [0xD3#8, 0xDB, 0xDD, 0xE3, 0xE4, 0xEB, 0xEC, 0xED, 0xF4, 0xFC, 0xFD] :=
  ⟨⟨.inr rfl, rfl, answer_ok (by decide)⟩, ⟨.inl rfl, rfl, by decide, answer_ok (by decide)⟩, by decide⟩

/-- 60_exceptions.md R143, R145: the halt exit comes before the fetch that faults. -/
theorem test_illegal_after_halt :
    step stateUndefinedOpcode2 =
      .fault (.undefinedOpcode 0xFD 0xC000 { machine { start with pc := 0xC001 } [] [0xFD] with irq := { flags := 0x10, enable := 0x10 } }) := rfl

/-- A fault, and each of the two refusals: bank 2 of a two-bank image, and cartridge RAM where there is none. -/
theorem test_witness_OnlyUndefinedOpcodesFault :
    step (machine start [] [0xDB]) = .fault (.undefinedOpcode 0xDB 0xC000 (machine { start with pc := 0xC001 } [] [0xDB])) ∧
    step { machine { start with pc := 0x7FFF } [] [] with
      mbc := { romBankLo := 2, romBankHi := 0, ramBank := 0, ramEnabled := false, mode := .romBanking } } = .refused (.romBankBeyondImage 2) ∧
    step { machine { start with pc := 0xA000 } [] [] with
      cfg := { Config.default with ramSize := .none }
      mbc := { romBankLo := 0, romBankHi := 0, ramBank := 0, ramEnabled := true, mode := .romBanking } } = .refused (.cartRamBeyondSize 0) :=
  ⟨rfl, rfl, rfl⟩

def stateLoadBetweenSlots : State := machine { start with a := 0xFF, h := 0xFF, l := 0xFF } [] []

theorem test_witness_LoadBetweenSlots :
    (Instr.ld_B_atHL).form = .ld8 .B .atHL ∧ Holds8 stateLoadBetweenSlots .atHL 0 ∧ (∃ t, Written8 stateLoadBetweenSlots .B 0 t) ∧
    (Instr.ld_atHL_A).form = .ld8 .atHL .A ∧ Holds8 stateLoadBetweenSlots .A 0xFF ∧ (∃ t, Written8 stateLoadBetweenSlots .atHL 0xFF t) ∧
    (Instr.ld_atHL_n 0xFF).form = .ld8n .atHL 0xFF :=
  ⟨rfl, rfl, ⟨_, rfl⟩, rfl, rfl, exists_ok rfl, rfl⟩

def stateLoadAccumulator : State := machine { start with b := 0xFF, c := 0xFF, d := 0x80 } [] []

theorem test_witness_LoadAccumulator :
    (busGet stateLoadAccumulator (stateLoadAccumulator.cpu.b ++ stateLoadAccumulator.cpu.c) = .ok 0 ∧
    busGet stateLoadAccumulator (stateLoadAccumulator.cpu.d ++ stateLoadAccumulator.cpu.e) = .ok 0 ∧ busGet stateLoadAccumulator 0x0000 = .ok 0 ∧
     busGet stateLoadAccumulator (0xFF00 + (0x00#8).setWidth 16) = .ok 0xFF ∧
     busGet stateLoadAccumulator (0xFF00 + stateLoadAccumulator.cpu.c.setWidth 16) = .ok 0) := ⟨rfl, rfl, rfl, rfl, rfl⟩

def stateStoreAccumulator : State := machine { start with a := 0x12, b := 0xFF, c := 0xFF, d := 0x80 } [] []

theorem test_witness_StoreAccumulator :
    ((∃ t, busSet stateStoreAccumulator (stateStoreAccumulator.cpu.b ++ stateStoreAccumulator.cpu.c) stateStoreAccumulator.cpu.a = .ok t) ∧
    (∃ t, busSet stateStoreAccumulator (stateStoreAccumulator.cpu.d ++ stateStoreAccumulator.cpu.e) stateStoreAccumulator.cpu.a = .ok t) ∧
     (∃ t, busSet stateStoreAccumulator 0x2000 stateStoreAccumulator.cpu.a = .ok t) ∧
     (∃ t, busSet stateStoreAccumulator (0xFF00 + (0x00#8).setWidth 16) stateStoreAccumulator.cpu.a = .ok t) ∧
     (∃ t, busSet stateStoreAccumulator (0xFF00 + stateStoreAccumulator.cpu.c.setWidth 16) stateStoreAccumulator.cpu.a = .ok t)) :=
  ⟨exists_ok rfl, exists_ok rfl, exists_ok rfl, exists_ok rfl, exists_ok rfl⟩

/-- `HL` at both ends of the address space. -/
theorem test_witness_LoadStoreAndStepHL :
    (∃ t, busSet (machine { start with h := 0xFF, l := 0xFF } [] []) (0xFF#8 ++ 0xFF#8) 0 = .ok t) ∧
    (∃ t, busSet (machine start [] []) (0x00#8 ++ 0x00#8) 0 = .ok t) ∧
    busGet (machine { start with h := 0xFF, l := 0xFF } [] []) (0xFF#8 ++ 0xFF#8) = .ok 0 ∧ busGet (machine start [] []) (0x00#8 ++ 0x00#8) = .ok 0 :=
  ⟨exists_ok rfl, exists_ok rfl, rfl, rfl⟩

/-- Also with the high byte of `SP` stored at 0x0000, after the low byte at 0xFFFF. -/
theorem test_witness_SixteenBitLoad :
    (Instr.ld_SP_nn 0xFFFF).form = .ld16 .SP 0xFFFF ∧
    ∃ t u, busSet (machine start [] []) 0xFFFF (start.sp.setWidth 8) = .ok t ∧ busSet t (0xFFFF + 1) ((start.sp >>> 8).setWidth 8) = .ok u :=
  ⟨rfl, exists_ok_ok rfl⟩

/-- Before a push to work RAM, and before one across the top of the address space. -/
def statePush (sp : Word) : State := machine { start with sp := sp, a := 0x12, f := 0xF0 } [] []

theorem test_witness_Push (sp : Word) (h : sp = 0xD000 ∨ sp = 0x0001) :
    (Instr.push_AF).form = .push .AF ∧
    ∃ t u : State, busSet ((statePush sp).setSP ((statePush sp).cpu.sp - 2)) ((statePush sp).cpu.sp - 2) ((stackPairValue (statePush sp) .AF).setWidth 8) = .ok t ∧
      busSet t ((statePush sp).cpu.sp - 1) ((stackPairValue (statePush sp) .AF >>> 8).setWidth 8) = .ok u := by
  obtain rfl | rfl := h
  · exact ⟨rfl, exists_ok_ok rfl⟩
  · exact ⟨rfl, exists_ok_ok rfl⟩

def statePop : State := machine { start with sp := 0xFFFF } [] []

theorem test_witness_Pop :
    ((Instr.pop_AF).form = .pop .AF ∧ busGet statePop statePop.cpu.sp = .ok 0 ∧ busGet statePop (statePop.cpu.sp + 1) = .ok 0) := ⟨rfl, rfl, rfl⟩

/-- The lowest and the highest stack slot in plain RAM. -/
theorem test_witness_PushThenPop (sp : Word) (h : sp = 0x8002 ∨ sp = 0xFFFF) :
    ∃ s : State, s.cpu.sp = sp ∧ (Instr.push_DE).form = .push .DE ∧ (Instr.pop_DE).form = .pop .DE ∧ Memory.wf s.mem = true ∧
      s.cpu.f &&& 0x0F = 0 ∧ plainRam (s.cpu.sp - 2) ∧ plainRam (s.cpu.sp - 1) := by
  obtain rfl | rfl := h
  · exact ⟨machine { start with sp := 0x8002 } [] [], rfl, rfl, rfl, rfl, rfl, by decide, by decide⟩
  · exact ⟨machine { start with sp := 0xFFFF } [] [], rfl, rfl, rfl, rfl, rfl, by decide, by decide⟩

def stateAluOperand : State := machine { start with b := 0xFF, h := 0xC1 } [(0xC100, 0x80)] []

theorem test_witness_AluOperand :
    (AluOperand .add_A_B .add stateAluOperand 0xFF ∧ AluOperand .adc_A_atHL .adc stateAluOperand 0x80 ∧
    AluOperand (.sub_n 0x00) .sub stateAluOperand 0x00 ∧ AluOperand .sbc_A_A .sbc stateAluOperand 0 ∧
     AluOperand (.cp_n 0xFF) .cp stateAluOperand 0xFF) :=
  ⟨.inl ⟨.B, rfl, rfl⟩, .inl ⟨.atHL, rfl, answer_ok (by decide)⟩, .inr rfl, .inl ⟨.A, rfl, rfl⟩, .inr rfl⟩

def stateLogic : State := machine { start with a := 0xF0, b := 0x3C } [] []

theorem test_witness_Logic :
    ((AluOperand .and_B .and stateLogic 0x3C ∧ ∀ k < 8, (0x30#8).getLsbD k = (stateLogic.cpu.a.getLsbD k && (0x3C#8).getLsbD k)) ∧
     (AluOperand (.xor_n 0x3C) .xor stateLogic 0x3C ∧ ∀ k < 8, (0xCC#8).getLsbD k = (stateLogic.cpu.a.getLsbD k ^^ (0x3C#8).getLsbD k)) ∧
     (AluOperand .or_B .or stateLogic 0x3C ∧ ∀ k < 8, (0xFC#8).getLsbD k = (stateLogic.cpu.a.getLsbD k || (0x3C#8).getLsbD k))) :=
  ⟨⟨.inl ⟨.B, rfl, rfl⟩, by decide⟩, ⟨.inr rfl, by decide⟩, ⟨.inl ⟨.B, rfl, rfl⟩, by decide⟩⟩

def stateIncrementDecrement : State := machine { start with a := 0xFF, h := 0xC1 } [] []

/-- Counting up from 0xFF and down from 0x00, in a register and at `(HL)`. -/
theorem test_witness_IncrementDecrement :
    Holds8 stateIncrementDecrement .A 0xFF ∧ (Instr.inc_A).form = .inc8 .A ∧
    (∃ t, Written8 (stateIncrementDecrement.setF 0x10) .A (BitVec.ofNat 8 0x100) t) ∧
    Holds8 stateIncrementDecrement .atHL 0x00 ∧ (Instr.dec_atHL).form = .dec8 .atHL ∧
    (∃ t, Written8 (stateIncrementDecrement.setF 0x70) .atHL (BitVec.ofNat 8 0xFF) t) :=
  ⟨rfl, rfl, ⟨_, rfl⟩, rfl, rfl, exists_ok rfl⟩

theorem test_witness_BcdAddition :
    (∃ s : State, s.cpu.a = BitVec.ofNat 8 (16 * (99 / 10) + 99 % 10) ∧ s.cpu.b = BitVec.ofNat 8 (16 * (99 / 10) + 99 % 10)) ∧
    (∃ s : State, s.cpu.a = BitVec.ofNat 8 (16 * (0 / 10) + 0 % 10) ∧ s.cpu.b = BitVec.ofNat 8 (16 * (0 / 10) + 0 % 10)) :=
  ⟨⟨machine { start with a := 0x99, b := 0x99 } [] [], rfl, rfl⟩, ⟨machine start [] [], rfl, rfl⟩⟩

theorem test_witness_SixteenBitArithmetic :
    (Instr.add_HL_SP).form = .addHL .SP ∧ (Instr.inc_BC).form = .inc16 .BC ∧ (Instr.dec_SP).form = .dec16 .SP := ⟨rfl, rfl, rfl⟩

/-- The rotated bytes of the vectors of section 2.5. -/
theorem test_witness_AccumulatorRotate :
    ((0x0B#8).getLsbD 0 = (0x85#8).getLsbD 7 ∧ ∀ k < 7, (0x0B#8).getLsbD (k + 1) = (0x85#8).getLsbD k) ∧
    ((0x9D#8).getLsbD 7 = (0x3B#8).getLsbD 0 ∧ ∀ k < 7, (0x9D#8).getLsbD k = (0x3B#8).getLsbD (k + 1)) ∧
    ((0x2B#8).getLsbD 0 = true ∧ ∀ k < 7, (0x2B#8).getLsbD (k + 1) = (0x95#8).getLsbD k) ∧
    ((0x40#8).getLsbD 7 = false ∧ ∀ k < 7, (0x40#8).getLsbD k = (0x81#8).getLsbD (k + 1)) := by decide

def statePrefixedRotate : State := machine { start with b := 0x85, h := 0xC1 } [(0xC100, 0x01)] []

/-- A register and the memory byte at `HL`, read and written; the shifted bytes of section 2.5. -/
theorem test_witness_PrefixedRotate :
    (Holds8 statePrefixedRotate .B 0x85 ∧ (∃ t, Written8 statePrefixedRotate .B 0x0B t) ∧ Holds8 statePrefixedRotate .atHL 0x01 ∧
    (∃ t, Written8 statePrefixedRotate .atHL 0x80 t)) ∧
    ((0x00#8).getLsbD 0 = false ∧ ∀ k < 7, (0x00#8).getLsbD (k + 1) = (0x80#8).getLsbD k) ∧
    ((0xC5#8).getLsbD 7 = (0x8A#8).getLsbD 7 ∧ ∀ k < 7, (0xC5#8).getLsbD k = (0x8A#8).getLsbD (k + 1)) ∧
    (∀ k < 4, (0x1F#8).getLsbD k = (0xF1#8).getLsbD (k + 4) ∧ (0x1F#8).getLsbD (k + 4) = (0xF1#8).getLsbD k) ∧
    ((0x7F#8).getLsbD 7 = false ∧ ∀ k < 7, (0x7F#8).getLsbD k = (0xFF#8).getLsbD (k + 1)) :=
  ⟨⟨rfl, ⟨_, rfl⟩, answer_ok (by decide), exists_ok rfl⟩, by decide, by decide, by decide, by decide⟩

def stateBitTestResetSet : State := machine { start with h := 0xC1, e := 0x3B } [(0xC100, 0xFF)] []

theorem test_witness_BitTestResetSet :
    (Holds8 stateBitTestResetSet .atHL 0xFF ∧ (Instr.bit_0 .atHL).form = .bit 0 .atHL ∧ (Instr.res_1 .atHL).form = .res 1 .atHL ∧
     (∀ k < 8, (0xFD#8).getLsbD k = ((0xFF#8).getLsbD k && decide (k ≠ (1 : Fin 8).val))) ∧ (∃ t, Written8 stateBitTestResetSet .atHL 0xFD t) ∧
     Holds8 stateBitTestResetSet .E 0x3B ∧ (Instr.set_7 .E).form = .set 7 .E ∧
     (∀ k < 8, (0xBB#8).getLsbD k = ((0x3B#8).getLsbD k || decide (k = (7 : Fin 8).val))) ∧ ∃ t, Written8 stateBitTestResetSet .E 0xBB t) :=
  ⟨answer_ok (by decide), rfl, rfl, by decide, exists_ok rfl, rfl, rfl, by decide, _, rfl⟩

theorem test_witness_Conditions :
    ConditionMet .NZ 0x10 ∧ ¬ ConditionMet .NZ 0x80 ∧ ConditionMet .Z 0x80 ∧ ¬ ConditionMet .Z 0x70 ∧ ConditionMet .NC 0xE0 ∧
    ¬ ConditionMet .NC 0x10 ∧
    ConditionMet .C 0x10 ∧ ¬ ConditionMet .C 0xE0 := by unfold ConditionMet; decide

theorem test_witness_Jump : (Instr.jp_NC_nn 0xFFFF).form = .jpCond .NC 0xFFFF ∧ (Instr.jr_Z_e 0x80).form = .jrCond .Z 0x80 := ⟨rfl, rfl⟩

def stateCall : State := machine { start with sp := 0x0001 } [] []

theorem test_witness_Call :
    ((Instr.call_C_nn 0).form = .callCond .C 0 ∧ (Instr.rst_38H).form = .rst 7 ∧ (Instr.rst_00H).form = .rst 0 ∧
     ∃ t u : State, busSet { stateCall with cpu := { stateCall.cpu with sp := stateCall.cpu.sp - 2 } } (stateCall.cpu.sp - 2) (stateCall.cpu.pc.setWidth 8) = .ok t ∧
       busSet t (stateCall.cpu.sp - 1) ((stateCall.cpu.pc >>> 8).setWidth 8) = .ok u) :=
  ⟨rfl, rfl, rfl, exists_ok_ok rfl⟩

def stateReturn : State := machine { start with sp := 0xFFFF } [] []

theorem test_witness_Return :
    ((Instr.ret_NZ).form = .retCond .NZ ∧ busGet stateReturn stateReturn.cpu.sp = .ok 0 ∧
    busGet stateReturn (stateReturn.cpu.sp + 1) = .ok 0) := ⟨rfl, rfl, rfl⟩

def statePrefixByte : State := machine { start with h := 0xBF, l := 0xFF } [] []

theorem test_witness_PrefixByte :
    (readable statePrefixByte (statePrefixByte.cpu.h ++ statePrefixByte.cpu.l) ∧
    ∀ v, storable statePrefixByte (statePrefixByte.cpu.h ++ statePrefixByte.cpu.l) v) :=
  ⟨by decide, fun _ => ⟨by decide, fun h => absurd h (by decide)⟩⟩

def stateInstructionsThatStoreNothing : State := machine { start with h := 0xC1 } [(0xC100, 0x22)] []

theorem test_witness_InstructionsThatStoreNothing :
    (storesAt (Instr.form .cp_atHL) stateInstructionsThatStoreNothing = [] ∧ (∃ t, exec .cp_atHL stateInstructionsThatStoreNothing = .next t) ∧
     storesAt (Instr.form (.bit_7 .atHL)) stateInstructionsThatStoreNothing = [] ∧
     ∃ t, exec (.bit_7 .atHL) stateInstructionsThatStoreNothing = .next t) :=
  ⟨rfl, exists_next rfl, rfl, exists_next rfl⟩

def stateStoringInstructions : State := machine { start with h := 0xC1 } [] []

/-- A store of one byte, and a push; a key that neither stores to. -/
theorem test_witness_StoringInstructions :
    (Memory.wf stateStoringInstructions.mem = true ∧ (∃ t, exec .ld_atHL_A stateStoringInstructions = .next t) ∧
    (∃ t, exec .push_BC stateStoringInstructions = .next t) ∧
     0xFF46 ∉ storesAt (.ld8 .atHL .A) stateStoringInstructions ∧ storesAt (.ld8 .atHL .A) stateStoringInstructions = [0xC100] ∧
     storeKey stateStoringInstructions 0xC100 = some 0xC100 ∧
     storesAt (.push .BC) stateStoringInstructions = [0xDFEE, 0xDFEF] ∧ storeKey stateStoringInstructions 0xDFEE ≠ some 0xDFF0 ∧
     storeKey stateStoringInstructions 0xDFEF ≠ some 0xDFF0) :=
  ⟨rfl, exists_next rfl, exists_next rfl, by decide, rfl, rfl, rfl, by decide, by decide⟩

def stateControl : State := machine start [] []

theorem test_witness_ControlState_ime : ∃ t, exec .ei stateControl = .next t ∧ t.cpu.ime = true := ⟨_, rfl, rfl⟩

theorem test_witness_ControlState_halted : ∃ t, exec .stop stateControl = .next t ∧ t.cpu.halted = true := ⟨_, rfl, rfl⟩

theorem test_witness_ControlState_flags : ∃ t, exec .pop_HL stateControl = .next t := exists_next (by decide)

/-- The ends of each range of the map. -/
theorem test_witness_BusMap_ranges :
    inRange 0x0000 0x00FF 0x0000 ∧ inRange 0x0000 0x00FF 0x00FF ∧ inRange 0x0000 0x3FFF 0x3FFF ∧ inRange 0x0100 0x3FFF 0x0100 := by decide

theorem test_witness_BusMap_plainRam :
    [0x8000#16, 0x9FFF, 0xC000, 0xDFFF, 0xE000, 0xFDFF, 0xFE00, 0xFE9F, 0xFF80, 0xFFFE].map (fun a => (decide (plainRam a), decide (unmapped a))) =
      List.replicate 10 (true, false) := by decide

theorem test_witness_BusMap_unmapped :
    [0xFEA0#16, 0xFEFF, 0xFF03, 0xFF08, 0xFF0E, 0xFF10, 0xFF3F, 0xFF4C, 0xFF4F, 0xFF51, 0xFF7F].map
      (fun a => (decide (plainRam a), decide (unmapped a))) = List.replicate 11 (false, true) := by decide

theorem test_witness_BootSwitch : State.reset.bootEnabled = true ∧ (machine start [] []).bootEnabled = false := ⟨rfl, rfl⟩

theorem test_witness_PlainRam :
    Memory.wf (machine start [] []).mem = true ∧ unmirror 0xFDFF = unmirror 0xDDFF ∧ unmirror 0xDFFF ≠ unmirror 0xDDFF ∧
    unmirror 0xFE00 ≠ unmirror 0xDE00 :=
  ⟨rfl, by decide, by decide, by decide⟩

/-- The ends of the four windows, each mode of window 2, each value of bit 0 in window 3. -/
theorem test_witness_BankRegisterWindows :
    (0x0100 ≤ (0x0100#16).toNat ∧ inRange 0x0000 0x1FFF 0x0100) ∧ inRange 0x0000 0x1FFF 0x1FFF ∧ inRange 0x2000 0x3FFF 0x2000 ∧
    inRange 0x2000 0x3FFF 0x3FFF ∧
    inRange 0x4000 0x5FFF 0x4000 ∧ inRange 0x4000 0x5FFF 0x5FFF ∧ inRange 0x6000 0x7FFF 0x6000 ∧ inRange 0x6000 0x7FFF 0x7FFF ∧
    (0x01#8).toNat % 2 = 1 ∧ (0xFE#8).toNat % 2 = 0 := by decide

/-- Bank 1 of two, bank 3 of two; the last byte of cartridge RAM and the first beyond it. -/
theorem test_witness_BankedCartridge :
    (inRange 0x4000 0x7FFF 0x4000 ∧ inRange 0x4000 0x7FFF 0x7FFF ∧ inRange 0xA000 0xBFFF 0xA000 ∧ inRange 0xA000 0xBFFF 0xBFFF) ∧
    (1 : Nat) < romBanks Config.default ∧ ¬ (3 : Nat) < romBanks Config.default ∧
    (0x1FFF = (0#2).toNat * 0x2000 + ((0xBFFF#16).toNat - 0xA000) ∧ 0x1FFF < ramBytes Config.default) ∧
    (0x2000 = (1#2).toNat * 0x2000 + ((0xA000#16).toNat - 0xA000) ∧ ramBytes Config.default ≤ 0x2000) := by decide

def stateDma : State := machine start [] []

/-- A write to `DMA` from page 0xFF, and from cartridge RAM that is disabled. -/
theorem test_witness_Dma :
    (Memory.wf stateDma.mem = true ∧ storable stateDma 0xFF46 0xFF ∧ storable stateDma 0xFF46 0xA0) :=
  ⟨rfl, ⟨by decide, fun _ i _ => ⟨fun h => absurd h.2 (by decide), fun h => absurd h.2.1 (by decide)⟩⟩,
    ⟨by decide, fun _ i _ => ⟨fun h => absurd h.2 (by decide), fun h => absurd h.2.1 (by decide)⟩⟩⟩

theorem test_witness_JoypadAndSerial :
    ((0x81#8).getLsbD 7 = true ∧ (0x81#8).getLsbD 0 = true) ∧ (0x7F#8).getLsbD 7 = false ∧ (0xFE#8).getLsbD 0 = false ∧
    ((0x80#8).getLsbD 7 = true ∧ (0x80#8).getLsbD 6 = false) := by decide

theorem test_witness_TimerTick : (0x03#8).getLsbD 2 = false ∧ (0x04#8).getLsbD 2 = true := by decide

def statePpuTick : State := machine start [] []
def statePpuTick2 : State := { machine start [] [] with ppu := { Ppu.launch .boot with ly := 144 } }

/-- Within a visible line, within VBlank, and at a line's end. -/
theorem test_witness_PpuTick :
    (statePpuTick.ppu.acc + 455 < 456 ∧ statePpuTick.ppu.ly.toNat < 144 ∧ 456 ≤ statePpuTick.ppu.acc + 456) ∧
    (statePpuTick2.ppu.acc + 0 < 456 ∧ 144 ≤ statePpuTick2.ppu.ly.toNat) := by decide

theorem test_witness_LineBoundary :
    (142 : Nat) ≠ (143#8).toNat ∧ 144 ≤ (144#8).toNat ∧ 144 ≤ (153#8).toNat := by decide

theorem test_witness_FrameOfTicks : State.reset.ppu.ly = 0 ∧ State.reset.ppu.acc = 0 := ⟨rfl, rfl⟩

def stateBackgroundAndWindow : State := picture 0x91 []
def stateBackgroundAndWindow2 : State := { machine start [] [] with ppu := { Ppu.launch .boot with lcdc := 0xF1, wy := 143, ly := 143, wx := 166 } }
def stateBackgroundAndWindow3 : State := picture 0x90 []

/-- The background alone, the window at its first column and line, and the background off. -/
theorem test_witness_BackgroundAndWindow :
    (stateBackgroundAndWindow.ppu.ly.toNat < 144 ∧ stateBackgroundAndWindow.ppu.back.length = 144 ∧
    stateBackgroundAndWindow.ppu.lcdc.getLsbD 1 = false ∧ stateBackgroundAndWindow.ppu.lcdc.getLsbD 0 = true ∧
    stateBackgroundAndWindow.ppu.lcdc.getLsbD 5 = false) ∧
    (stateBackgroundAndWindow2.ppu.ly.toNat < 144 ∧ stateBackgroundAndWindow2.ppu.back.length = 144 ∧
    stateBackgroundAndWindow2.ppu.lcdc.getLsbD 1 = false ∧ stateBackgroundAndWindow2.ppu.lcdc.getLsbD 0 = true ∧
     stateBackgroundAndWindow2.ppu.lcdc.getLsbD 5 = true ∧ stateBackgroundAndWindow2.ppu.wy.toNat ≤ stateBackgroundAndWindow2.ppu.ly.toNat ∧
     stateBackgroundAndWindow2.ppu.wx.toNat ≤ 159 + 7) ∧
    (stateBackgroundAndWindow3.ppu.lcdc.getLsbD 1 = false ∧ stateBackgroundAndWindow3.ppu.lcdc.getLsbD 0 = false) :=
  ⟨⟨by decide, by rfl, by decide, by decide, by decide⟩, ⟨by decide, by rfl, by decide, by decide, by decide, by decide, by decide⟩, by decide, by decide⟩

def stateSprites : State := sprites 0x93 [(0xFE00, 0x10), (0xFE01, 0x08), (0xFE02, 0x02)]

/-- Entry 0 draws at column 0 with shade 3 and the all-zero entries draw nowhere. -/
theorem test_witness_Sprites :
    (stateSprites.ppu.ly.toNat < 144 ∧ stateSprites.ppu.back.length = 144 ∧ stateSprites.ppu.lcdc.getLsbD 1 = true ∧
    SpriteDraws stateSprites 0 0 0 0 3 ∧ stateSprites.cfg.spriteOrder = .laterOamWins ∧
     ∀ c, ¬ SpriteDraws stateSprites 0 0 0 1 c) :=
  ⟨by decide, by rfl, by decide, ⟨by decide, by decide, 0, by decide, by decide, by decide, by decide, by decide⟩, rfl,
    fun _ h => absurd h.2.1 (by decide)⟩

theorem blankFrame_wf : frameWf blankFrame :=
  ⟨rfl, fun r h => by rw [List.eq_of_mem_replicate h]; rfl⟩

/-- A running machine in work RAM. -/
theorem test_witness_StepKeepsTheInvariant : (machine start [] []).Inv ∧ ∃ t, step (machine start [] []) = .next t :=
  ⟨{ flagNibble := rfl, memoryForm := rfl, memoryKeys := by decide, line := by decide, accumulator := by decide
     vblankMode := by decide, transferMode := by decide, searchMode := by decide, divSub := by decide, timaSub := by decide
     ramMode := by decide, romMode := by decide, backForm := blankFrame_wf, frontForm := blankFrame_wf }, _, rfl⟩

theorem test_first_step_from_reset : ∃ t, step State.reset = .next t ∧ t.cpu.pc = 1 := ⟨_, rfl, rfl⟩

/-- The last step of line 143. -/
theorem test_witness_FrontChanges :
    ∃ s t : State, s.ppu.acc < 456 ∧ step s = .next t ∧ t.ppu.front ≠ s.ppu.front :=
  ⟨{ machine start [] [] with ppu := { Ppu.launch .boot with ly := 143, acc := 452, back := [[1]], front := [] } }, _, by decide, rfl, by decide⟩

theorem test_witness_CyclesAreBounded :
    (Instr.jr_C_e 0).form = .jrCond .C 0 ∧ (Instr.ret_Z).form = .retCond .Z ∧ (Instr.call_NZ_nn 0).form = .callCond .NZ 0 ∧
    (Instr.jp_NC_nn 0).form = .jpCond .NC 0 ∧ ∀ op, Instr.ret_Z ≠ .illegal op := ⟨rfl, rfl, rfl, rfl, fun _ h => nomatch h⟩

end Sys2Proof.Tests
end

section
/-! PROOFS. The machine's invariant: by the part of the machine each clause speaks of, what the CPU's phase and the two ticks of a step
do to it, and the launch state (10_state.md R16, R21, R22; 61_ppu.md R161, R164, R165). -/

namespace Sys2Proof.Machine

/-! ### The frames at launch -/

theorem frameWf_blankFrame : frameWf blankFrame :=
  ⟨List.length_replicate, fun _ hr => List.eq_of_mem_replicate hr ▸ List.length_replicate⟩

theorem framePixel_replicate (h w y x : Nat) : framePixel (List.replicate h (List.replicate w 0)) y x = 0 := by
  unfold framePixel
  by_cases hy : y < h
  · have hrow : (List.replicate h (List.replicate w (0 : Shade))).getD y [] = List.replicate w 0 := List.getD_replicate _ hy
    rw [hrow, List.getD_eq_getElem?_getD, List.getElem?_getD_replicate_default_eq]
  · have hrow : (List.replicate h (List.replicate w (0 : Shade))).getD y [] = [] :=
      List.getD_eq_default _ _ (by rw [List.length_replicate]; omega)
    rw [hrow, List.getD_nil]

/-! ### The invariant by the part of the machine it speaks of -/

/-- The storage arrays: canonical, and no key listed but those of their cells. -/
structure MemoryOk (cfg : Config) (m : Memory) : Prop where
  form : Memory.wf m = true
  keys : ∀ p ∈ m, isStorage cfg p.1 = true

/-- The line, the accumulator and the frames are in their bounds, and VBlank is the mode of the lines it covers. -/
structure PpuPlaceOk (p : Ppu) : Prop where
  line : p.ly.toNat ≤ 153
  accumulator : p.acc < 456
  vblankMode : p.mode = .vblank ↔ 144 ≤ p.ly.toNat
  backForm : frameWf p.back
  frontForm : frameWf p.front

/-- Between ticks the mode also agrees with the place in the line. -/
structure PpuOk (p : Ppu) : Prop extends PpuPlaceOk p where
  transferMode : p.mode = .dataTransfer → 80 ≤ p.acc
  searchMode : p.mode = .oamSearch → p.acc < 80

/-- The sub-counters of the Timer are below their thresholds. -/
structure TimerOk (t : Timer) : Prop where
  divSub : t.divSub < 256
  timaSub : timerEnabled t.tac = true → t.timaSub < timaThreshold t.tac

/-- The upper latch of MBC1 that the mode does not use is 0. -/
structure MbcOk (m : Mbc1) : Prop where
  ramMode : m.mode = .ramBanking → m.romBankHi = 0
  romMode : m.mode = .romBanking → m.ramBank = 0

/-- The invariant without its Timer clause, which a write of `TAC` breaks until the next tick. -/
structure CpuPhaseInv (s : State) : Prop where
  flagNibble : s.cpu.f &&& 0x0F = 0
  memory : MemoryOk s.cfg s.mem
  ppu : PpuOk s.ppu
  mbc : MbcOk s.mbc

theorem inv_iff {s : State} : s.Inv ↔ CpuPhaseInv s ∧ TimerOk s.timer :=
  ⟨fun ⟨hf, hmf, hmk, hl, ha, hv, ht, hs, hd, hti, hra, hro, hb, hfr⟩ =>
      ⟨⟨hf, ⟨hmf, hmk⟩, ⟨⟨hl, ha, hv, hb, hfr⟩, ht, hs⟩, ⟨hra, hro⟩⟩, ⟨hd, hti⟩⟩,
    fun ⟨⟨hf, ⟨hmf, hmk⟩, ⟨⟨hl, ha, hv, hb, hfr⟩, ht, hs⟩, ⟨hra, hro⟩⟩, ⟨hd, hti⟩⟩ =>
      ⟨hf, hmf, hmk, hl, ha, hv, ht, hs, hd, hti, hra, hro, hb, hfr⟩⟩

/-! ### Memory -/

theorem MemoryOk.set {cfg : Config} {m : Memory} (hm : MemoryOk cfg m) {k : Nat} (hk : isStorage cfg k = true) (v : Byte) :
    MemoryOk cfg (Memory.set m k v) where
  form := Memory.set_wf hm.form k v
  keys p hp := by
    rcases Memory.mem_set hp with hp | rfl
    · exact hm.keys p hp
    · exact hk

theorem isStorage_oam {cfg : Config} {i : Nat} (hi : i < 0xA0) : isStorage cfg (oamBase + i) = true := by
  have hb : oamBase = 0xFE00 := rfl
  exact isStorage_iff.mpr (by omega)

/-- A DMA copy that stays in `OAM` lists only cells of `OAM`. -/
theorem dmaCopy_memoryOk {page : Byte} {count i : Nat} {s t : State} (hi : i + count ≤ 0xA0) (hm : MemoryOk s.cfg s.mem)
    (h : dmaCopy page count i s = .ok t) : MemoryOk t.cfg t.mem := by
  induction count generalizing i s with
  | zero => exact Except.ok.inj h ▸ hm
  | succ n ih =>
    obtain ⟨v, -, h⟩ := Res.bind_eq_ok.mp h
    exact ih (s := s.poke (oamBase + i) v) (by omega) (hm.set (isStorage_oam (by omega)) v) h

theorem dmaBytes_le (cfg : Config) : dmaBytes cfg ≤ 0xA0 := by
  unfold dmaBytes; split <;> omega

/-! ### Registers of the devices -/

theorem MbcOk.setUpper {m : Mbc1} (hm : MbcOk m) (v : Byte) : MbcOk (mbcSetUpper m v) := by
  unfold mbcSetUpper
  split
  next hmode => exact ⟨hm.ramMode, fun hrom => absurd (hmode.symm.trans hrom) (by decide)⟩
  next hmode => exact ⟨fun hram => absurd (hmode.symm.trans hram) (by decide), hm.romMode⟩

theorem mbcOk_setMode (m : Mbc1) (v : Byte) : MbcOk (mbcSetMode m v) := by
  unfold mbcSetMode
  split
  · exact ⟨fun _ => rfl, nofun⟩
  · exact ⟨nofun, fun _ => rfl⟩

/-- A write of a PPU register moves neither the place in the frame nor the frames. -/
theorem PpuOk.setRegister {p : Ppu} (hp : PpuOk p) (v : Byte) (off : Nat) : PpuOk (ppuSet p v off) := by
  obtain ⟨⟨hl, ha, hv, hb, hf⟩, ht, hs⟩ := hp
  unfold ppuSet
  split <;> exact ⟨⟨hl, ha, hv, hb, hf⟩, ht, hs⟩

/-! ### The CPU's phase of a step -/

theorem CpuPhaseInv.busSet {s t : State} {a : Word} {v : Byte} (hs : CpuPhaseInv s) (h : busSet s a v = .ok t) :
    CpuPhaseInv t := by
  obtain ⟨hf, hm, hp, hb⟩ := hs
  rcases busSet_cases h with rfl | ⟨-, m, rfl, hlatch⟩ | ⟨k, -, hk, -, rfl⟩ | rfl | ⟨x, rfl⟩ | ⟨off, rfl⟩ | rfl | rfl |
    ⟨off, -, rfl⟩ | ⟨-, hdma⟩ | ⟨-, rfl⟩
  case inr.inl =>
    refine ⟨hf, hm, hp, ?_⟩
    rcases hlatch with rfl | rfl | rfl | rfl
    · exact ⟨hb.ramMode, hb.romMode⟩
    · exact ⟨hb.ramMode, hb.romMode⟩
    · exact hb.setUpper v
    · exact mbcOk_setMode s.mbc v
  case inr.inr.inl => exact ⟨hf, hm.set hk v, hp, hb⟩
  case inr.inr.inr.inr.inr.inr.inr.inr.inl => exact ⟨hf, hm, hp.setRegister v off, hb⟩
  case inr.inr.inr.inr.inr.inr.inr.inr.inr.inl =>
    have hmem := dmaCopy_memoryOk (s := { s with ppu := { s.ppu with dmaW := v } }) (by have := dmaBytes_le s.cfg; omega) hm hdma
    rw [dmaCopy_frame hdma]
    rw [dmaCopy_frame hdma] at hmem
    exact ⟨hf, hmem, hp.setRegister v 6, hb⟩
  all_goals exact ⟨hf, hm, hp, hb⟩

theorem CpuPhaseInv.deliverInputs {s : State} (hs : CpuPhaseInv s) : CpuPhaseInv (deliverInputs s) := by
  obtain ⟨j, q, es, h⟩ := deliverInputs_frame s
  rw [h]
  exact ⟨hs.flagNibble, hs.memory, hs.ppu, hs.mbc⟩

theorem CpuPhaseInv.cpuStep {s t : State} {c : Nat} (hs : CpuPhaseInv s) (h : cpuStep s = .next (t, c)) : CpuPhaseInv t :=
  cpuStep_induct (P := CpuPhaseInv)
    (fun _ _ hn hu => ⟨hn hu.flagNibble, hu.memory, hu.ppu, hu.mbc⟩)
    (fun _ _ _ _ hu h => hu.busSet h)
    (fun _ _ hu => ⟨hu.flagNibble, hu.memory, hu.ppu, hu.mbc⟩) hs h

/-! ### The ticks -/

theorem timaThreshold_pos (tac : Byte) : 0 < timaThreshold tac := by
  unfold timaThreshold; split <;> decide

/-- A tick of the Timer leaves remainders below the thresholds, whatever was there. -/
theorem timerOk_timerTick (n : Nat) (s : State) : TimerOk (timerTick n s).timer := by
  obtain ⟨x, q, h⟩ := timerTick_frame n s
  rw [h]
  refine ⟨Nat.mod_lt _ (by decide), fun he => ?_⟩
  have he : timerEnabled s.timer.tac = true := he
  show (if timerEnabled s.timer.tac then (s.timer.timaSub + n) % timaThreshold s.timer.tac else s.timer.timaSub) < timaThreshold s.timer.tac
  rw [if_pos he]
  exact Nat.mod_lt _ (timaThreshold_pos _)

theorem CpuPhaseInv.timerTick {s : State} (hs : CpuPhaseInv s) (n : Nat) : CpuPhaseInv (timerTick n s) := by
  obtain ⟨x, q, h⟩ := timerTick_frame n s
  rw [h]
  exact ⟨hs.flagNibble, hs.memory, hs.ppu, hs.mbc⟩

theorem nextLine_le {ly : Byte} (h : ly.toNat ≤ 153) : (nextLine ly).toNat ≤ 153 := by
  have hlast : lastLine = 153 := rfl
  unfold nextLine
  split
  · decide
  · bv_omega

theorem frameWf_renderedBack {s : State} (h : frameWf s.ppu.back) : frameWf (renderedBack s) := by
  obtain ⟨hrows, hcols⟩ := h
  unfold renderedBack
  split
  · refine ⟨by rw [List.length_set, hrows], fun r hr => ?_⟩
    rcases List.mem_or_eq_of_mem_set hr with hr | rfl
    · exact hcols r hr
    · rw [List.length_map, List.length_range]
  · exact ⟨hrows, hcols⟩

/-- After a line boundary the mode is HBlank or VBlank, as the new line says. -/
theorem PpuPlaceOk.lineBoundary {s : State} (hp : PpuPlaceOk s.ppu) : PpuOk (lineBoundary s).ppu := by
  have hback : frameWf (renderedBack s) := frameWf_renderedBack hp.backForm
  have hfront : frameWf (if (nextLine s.ppu.ly).toNat = 144 then renderedBack s else s.ppu.front) := by
    split
    · exact hback
    · exact hp.frontForm
  rw [lineBoundary_eq]
  refine ⟨⟨nextLine_le hp.line, hp.accumulator, ?_, hback, hfront⟩, ?_, ?_⟩
  all_goals by_cases hv : (nextLine s.ppu.ly).toNat ≥ 144 <;> simp [hv]

theorem PpuPlaceOk.lineBoundaries {s : State} (hp : PpuPlaceOk s.ppu) (k : Nat) : PpuOk (lineBoundaries (k + 1) s).ppu := by
  induction k generalizing s with
  | zero => exact hp.lineBoundary
  | succ k ih => exact ih hp.lineBoundary.toPpuPlaceOk

/-- Inside a line the mode is set by the accumulator, and in VBlank it stays. -/
theorem PpuPlaceOk.modeInLine {s : State} (hp : PpuPlaceOk s.ppu) : PpuOk (modeInLine s).ppu := by
  obtain ⟨hl, ha, hv, hb, hf⟩ := hp
  have hline : vblankLine = 144 := rfl
  unfold Machine.modeInLine
  by_cases hvis : s.ppu.ly.toNat < vblankLine
  · have hlow : ¬ 144 ≤ s.ppu.ly.toNat := by omega
    rw [if_pos hvis]
    by_cases ht : s.ppu.acc ≥ transferThreshold
    · simp only [if_pos ht]
      exact ⟨⟨hl, ha, iff_of_false (by simp) hlow, hb, hf⟩, fun _ => ht, by simp⟩
    · simp only [if_neg ht]
      exact ⟨⟨hl, ha, iff_of_false (by simp) hlow, hb, hf⟩, by simp, fun _ => Nat.lt_of_not_ge ht⟩
  · have hmode : s.ppu.mode = .vblank := hv.mpr (by omega)
    rw [if_neg hvis]
    exact ⟨⟨hl, ha, hv, hb, hf⟩, by simp [hmode], by simp [hmode]⟩

theorem PpuPlaceOk.ppuTick {s : State} (hp : PpuPlaceOk s.ppu) (n : Nat) : PpuOk (ppuTick n s).ppu := by
  have hplace : PpuPlaceOk { s.ppu with acc := (s.ppu.acc + n) % lineCycles } :=
    ⟨hp.line, Nat.mod_lt _ (by decide), hp.vblankMode, hp.backForm, hp.frontForm⟩
  unfold Machine.ppuTick
  dsimp only
  cases (s.ppu.acc + n) / lineCycles with
  | zero => exact PpuPlaceOk.modeInLine (s := { s with ppu := _ }) hplace
  | succ k => exact PpuPlaceOk.lineBoundaries (s := { s with ppu := _ }) hplace k

theorem CpuPhaseInv.ppuTick {s : State} (hs : CpuPhaseInv s) (n : Nat) : CpuPhaseInv (ppuTick n s) := by
  have hp : PpuOk (Machine.ppuTick n s).ppu := hs.ppu.toPpuPlaceOk.ppuTick n
  obtain ⟨ly, acc, mode, hit, back, front, q, h⟩ := ppuTick_frame n s
  rw [h] at hp ⊢
  exact ⟨hs.flagNibble, hs.memory, hp, hs.mbc⟩

theorem ppuTick_timer (n : Nat) (s : State) : (ppuTick n s).timer = s.timer := by
  obtain ⟨ly, acc, mode, hit, back, front, q, h⟩ := ppuTick_frame n s
  rw [h]

/-- Settles O55: the CPU's phase keeps all but the Timer's clause, which the Timer's tick restores; the PPU's tick sets the
mode its place asks for. -/
theorem stepKeepsTheInvariant : Obligations.StepKeepsTheInvariant := by
  intro s t hs h
  obtain ⟨s1, c, hcpu, rfl⟩ := step_eq_next.mp h
  have h1 : CpuPhaseInv s1 := (inv_iff.mp hs).1.deliverInputs.cpuStep hcpu
  refine inv_iff.mpr ⟨(h1.timerTick c).ppuTick c, ?_⟩
  rw [ppuTick_timer]
  exact timerOk_timerTick c s1

/-! ### The launch state -/

theorem launch_flagNibble (profile : LaunchProfile) : (Cpu.launch profile).f &&& 0x0F = 0 := by
  cases profile <;> decide

theorem ppuOk_launch (profile : LaunchProfile) : PpuOk (Ppu.launch profile) := by
  cases profile <;>
    exact ⟨⟨by decide, by decide, by decide, frameWf_blankFrame, frameWf_blankFrame⟩, by decide, by decide⟩

/-- The launch state has the invariant, for any parameters and profile, where the launch contents list only storage cells. -/
theorem launch_inv {cfg : Config} {contents : Memory} (profile : LaunchProfile) (hm : MemoryOk cfg contents) :
    (State.launch cfg profile contents).Inv :=
  inv_iff.mpr ⟨⟨launch_flagNibble profile, hm, ppuOk_launch profile, ⟨fun _ => rfl, fun _ => rfl⟩⟩,
    ⟨Nat.zero_lt_succ _, fun _ => timaThreshold_pos _⟩⟩

/-- Settles O56: the launch state with nothing listed. -/
theorem resetHasTheInvariant : Obligations.ResetHasTheInvariant :=
  launch_inv .boot ⟨rfl, fun _ hp => absurd hp List.not_mem_nil⟩

/-- Settles O57: every value is the one `State.launch` gives, and a blank frame's pixels are 0. -/
theorem launchStateIsTheTable : Obligations.LaunchStateIsTheTable := by
  intro cfg contents
  have hblank : ∀ y x, framePixel blankFrame y x = 0 := framePixel_replicate 144 160
  refine ⟨rfl, rfl, rfl, rfl, rfl, rfl, rfl, rfl, rfl, rfl, rfl, rfl, rfl, rfl, rfl, rfl, rfl, rfl,
    fun y x => ⟨hblank y x, hblank y x⟩, rfl, rfl, rfl, rfl, rfl, rfl, rfl, rfl⟩

end Sys2Proof.Machine
end

section
/-! PROOFS. The operand tables and the flag byte, and which operations write `IME`, `halted` and the flags
(10_state.md R7-R10, R13-R15). -/

namespace Sys2Proof.Machine

/-! ### Operand tables and the flag byte (10_state.md R7-R10) -/

theorem packFlags_bits (z n h c : Bool) :
    (packFlags z n h c).getLsbD 7 = z ∧ (packFlags z n h c).getLsbD 6 = n ∧ (packFlags z n h c).getLsbD 5 = h ∧
    (packFlags z n h c).getLsbD 4 = c ∧ packFlags z n h c &&& 0x0F = 0 :=
  ⟨flagZ_packFlags z n h c, flagN_packFlags z n h c, flagH_packFlags z n h c, flagC_packFlags z n h c, packFlags_low z n h c⟩

/-- Settles O11: a slot reads and writes the fields its table names; a pair's write is that of its two bytes. -/
theorem registerTablesAndFlagLayout : Obligations.RegisterTablesAndFlagLayout := by
  refine ⟨packFlags_bits, fun s v => ?_, fun s x y => ?_⟩
  · exact ⟨rfl, rfl, rfl, rfl, rfl, rfl, rfl, rfl, rfl, rfl, rfl, rfl, rfl, rfl, rfl, rfl⟩
  · have pair : ∀ rr, writeR16 s rr (x ++ y) = withPair s x y rr := fun rr => (withPair_eq s x y rr).symm
    have stackPair : ∀ rr, writeR16S s rr (x ++ y) = withStackPair s x y rr := fun rr => (withStackPair_eq s x y rr).symm
    exact ⟨rfl, rfl, rfl, rfl, rfl, rfl, rfl, rfl, pair .BC, pair .DE, pair .HL, pair .SP,
      stackPair .BC, stackPair .DE, stackPair .HL, stackPair .AF⟩

/-! ### What an operation does to the control state and the flags (10_state.md R13-R15) -/

/-- `IME` and `halted`. -/
def Cpu.modes (c : Cpu) : Bool × Bool := (c.ime, c.halted)

/-- The modes and the flags: every register but `A` to `L`, `SP` and `PC`. -/
def Cpu.control (c : Cpu) : (Bool × Bool) × Byte := (c.modes, c.f)

theorem busSet_control {s t : State} {a : Word} {v : Byte} (h : busSet s a v = .ok t) : t.cpu.control = s.cpu.control := by
  rw [(busSet_frame h).1]

theorem writeR8_control {s t : State} {r : R8} {v : Byte} (h : writeR8 s r v = .ok t) : t.cpu.control = s.cpu.control := by
  cases r
  case atHL => exact busSet_control h
  all_goals exact Except.ok.inj h ▸ rfl

theorem writeR16_control (s : State) (rr : R16) (v : Word) : (writeR16 s rr v).cpu.control = s.cpu.control := by
  cases rr <;> rfl

theorem busSet16_control {s t : State} {a v : Word} (h : busSet16 s a v = .ok t) : t.cpu.control = s.cpu.control := by
  obtain ⟨u, hu, h⟩ := Res.bind_eq_ok.mp h
  exact (busSet_control h).trans (busSet_control hu)

theorem push16_control {s t : State} {v : Word} (h : push16 s v = .ok t) : t.cpu.control = s.cpu.control :=
  busSet16_control (s := s.setSP (s.cpu.sp - 2)) h

theorem pop16_control {s t : State} {v : Word} (h : pop16 s = .ok (v, t)) : t.cpu.control = s.cpu.control := by
  rw [(pop16_eq_ok.mp h).2]; rfl

theorem loadA_control {s t : State} {a : Word} (h : loadA a s = .ok t) : t.cpu.control = s.cpu.control := by
  obtain ⟨v, -, h⟩ := Res.bind_eq_ok.mp h
  exact Except.ok.inj h ▸ rfl

theorem loadAStep_control {s t : State} {d : Word} (h : loadAStep d s = .ok t) : t.cpu.control = s.cpu.control := by
  obtain ⟨v, -, h⟩ := Res.bind_eq_ok.mp h
  exact Except.ok.inj h ▸ rfl

theorem storeAStep_control {s t : State} {d : Word} (h : storeAStep d s = .ok t) : t.cpu.control = s.cpu.control := by
  obtain ⟨u, hu, h⟩ := Res.bind_eq_ok.mp h
  rw [← busSet_control hu, ← Except.ok.inj h]
  rfl

theorem popPair_control {s t : State} {rr : R16S} (hrr : rr ≠ .AF) (h : popPair rr s = .ok t) : t.cpu.control = s.cpu.control := by
  obtain ⟨⟨v, u⟩, hu, h⟩ := Res.bind_eq_ok.mp h
  rw [← pop16_control hu, ← Except.ok.inj h]
  cases rr with
  | AF => exact absurd rfl hrr
  | BC | DE | HL => rfl

theorem callTo_control {s t : State} {a : Word} (h : callTo a s = .ok t) : t.cpu.control = s.cpu.control := by
  obtain ⟨u, hu, h⟩ := Res.bind_eq_ok.mp h
  rw [← push16_control hu, ← Except.ok.inj h]
  rfl

theorem ret_control {s t : State} (h : ret s = .ok t) : t.cpu.control = s.cpu.control := by
  obtain ⟨⟨v, u⟩, hu, h⟩ := Res.bind_eq_ok.mp h
  rw [← pop16_control hu, ← Except.ok.inj h]
  rfl

/-- `RES` and `SET`: a slot is read, and written back changed. -/
theorem changeR8_control {s t : State} {r : R8} {f : Byte → Byte} (h : (readR8 s r >>= fun v => writeR8 s r (f v)) = .ok t) :
    t.cpu.control = s.cpu.control := by
  obtain ⟨v, -, h⟩ := Res.bind_eq_ok.mp h
  exact writeR8_control h

/-- A conditional operation keeps what it keeps when its condition holds. -/
theorem ifCond_control {s t : State} {c : Bool} {x : Res State} (hx : x = .ok t → t.cpu.control = s.cpu.control)
    (h : (if c then x else .ok s) = .ok t) : t.cpu.control = s.cpu.control := by
  cases c
  · exact Except.ok.inj h ▸ rfl
  · exact hx h

theorem jumpIf_control {s t : State} {cc : Cond} {a : Word} (h : jumpIf cc a s = .ok t) : t.cpu.control = s.cpu.control :=
  ifCond_control (x := jump a s) (fun h => Except.ok.inj h ▸ rfl) h

/-! ### Operations that write the flags -/

theorem rotR8_modes {s t : State} {op : RotOp} {r : R8} (h : rotR8 op r s = .ok t) : t.cpu.modes = s.cpu.modes := by
  obtain ⟨v, -, h⟩ := Res.bind_eq_ok.mp h
  obtain ⟨u, hu, h⟩ := Res.bind_eq_ok.mp h
  rw [← Except.ok.inj h]
  exact congrArg Prod.fst (writeR8_control hu)

theorem bitR8_modes {s t : State} {b : Fin 8} {r : R8} (h : bitR8 b r s = .ok t) : t.cpu.modes = s.cpu.modes := by
  obtain ⟨v, -, h⟩ := Res.bind_eq_ok.mp h
  exact Except.ok.inj h ▸ rfl

theorem aluR8_modes {s t : State} {op : AluOp} {r : R8} (h : aluR8 op r s = .ok t) : t.cpu.modes = s.cpu.modes := by
  obtain ⟨v, -, h⟩ := Res.bind_eq_ok.mp h
  exact Except.ok.inj h ▸ rfl

/-- `INC` and `DEC`: a slot is read, the flags are written, and the slot is written back changed. -/
theorem stepR8_modes {s t : State} {r : R8} {f : Byte → Byte × Byte}
    (h : (readR8 s r >>= fun v => writeR8 (s.setF (f v).2) r (f v).1) = .ok t) : t.cpu.modes = s.cpu.modes := by
  obtain ⟨v, -, h⟩ := Res.bind_eq_ok.mp h
  exact congrArg Prod.fst (writeR8_control h)

theorem popPair_modes {s t : State} {rr : R16S} (h : popPair rr s = .ok t) : t.cpu.modes = s.cpu.modes := by
  obtain ⟨⟨v, u⟩, hu, h⟩ := Res.bind_eq_ok.mp h
  have hm : u.cpu.modes = s.cpu.modes := congrArg Prod.fst (pop16_control hu)
  rw [← hm, ← Except.ok.inj h]
  cases rr <;> rfl

theorem prefixedByFields_modes {s t : State} {op2 : Byte} (h : prefixedByFields op2 s = .ok t) : t.cpu.modes = s.cpu.modes := by
  unfold prefixedByFields at h
  dsimp only at h
  split at h
  · exact rotR8_modes h
  · exact bitR8_modes h
  · exact congrArg Prod.fst (changeR8_control h)
  · exact congrArg Prod.fst (changeR8_control h)

/-! ### Every operation -/

/-- The forms whose operation writes the flags. -/
def writesFlags : Form → Bool
  | .pop rr => rr == .AF
  | .ldHLSPe _ | .alu _ _ | .aluN _ _ | .inc8 _ | .dec8 _ | .daa | .cpl | .scf | .ccf | .addHL _ | .addSPe _
  | .rlca | .rrca | .rla | .rra | .rot _ _ | .bit _ _ | .prefixed _ => true
  | _ => false

/-- What an operation can do to `IME`, `halted` and the flags: nothing, or one of the three kinds of write. -/
theorem formResult_control {x : Form} {s t : State} (h : formResult x s = .ok t) :
    t.cpu.control = s.cpu.control ∨
    (writesFlags x = true ∧ t.cpu.modes = s.cpu.modes) ∨
    ((x = .ei ∨ x = .di ∨ x = .reti) ∧ t.cpu.halted = s.cpu.halted ∧ t.cpu.f = s.cpu.f) ∨
    ((x = .halt ∨ x = .stop) ∧ t.cpu.ime = s.cpu.ime ∧ t.cpu.f = s.cpu.f) := by
  cases x with
  | ld8 d src =>
    obtain ⟨v, -, h⟩ := Res.bind_eq_ok.mp h
    exact .inl (writeR8_control h)
  | ld8n d n => exact .inl (writeR8_control h)
  | ldAInd | ldAAbs | ldhAn | ldhAC => exact .inl (loadA_control h)
  | ldIndA | ldAbsA | ldhnA | ldhCA => exact .inl (busSet_control h)
  | ldHLincA | ldHLdecA => exact .inl (storeAStep_control h)
  | ldAHLinc | ldAHLdec => exact .inl (loadAStep_control h)
  | ld16 | inc16 | dec16 => exact .inl (Except.ok.inj h ▸ writeR16_control s _ _)
  | ldAbsSP nn => exact .inl (busSet16_control h)
  | push rr => exact .inl (push16_control h)
  | pop rr =>
    by_cases hrr : rr = .AF
    · exact .inr (.inl ⟨beq_iff_eq.mpr hrr, popPair_modes h⟩)
    · exact .inl (popPair_control hrr h)
  | res b r => exact .inl (changeR8_control h)
  | set b r => exact .inl (changeR8_control h)
  | ldSPHL | jp | jpHL | jr | nop | illegal => exact .inl (Except.ok.inj h ▸ rfl)
  | jpCond cc nn => exact .inl (jumpIf_control h)
  | jrCond cc eb => exact .inl (jumpIf_control (a := s.cpu.pc + sext16 eb) h)
  | call | rst => exact .inl (callTo_control h)
  | callCond cc nn => exact .inl (ifCond_control callTo_control h)
  | ret => exact .inl (ret_control h)
  | retCond cc => exact .inl (ifCond_control ret_control h)
  | alu op src => exact .inr (.inl ⟨rfl, aluR8_modes h⟩)
  | inc8 r => exact .inr (.inl ⟨rfl, stepR8_modes h⟩)
  | dec8 r => exact .inr (.inl ⟨rfl, stepR8_modes h⟩)
  | rot op r => exact .inr (.inl ⟨rfl, rotR8_modes h⟩)
  | bit b r => exact .inr (.inl ⟨rfl, bitR8_modes h⟩)
  | prefixed op2 => exact .inr (.inl ⟨rfl, prefixedByFields_modes h⟩)
  | ldHLSPe | aluN | daa | cpl | scf | ccf | addHL | addSPe | rlca | rrca | rla | rra =>
    exact .inr (.inl ⟨rfl, Except.ok.inj h ▸ rfl⟩)
  | ei => exact .inr (.inr (.inl ⟨.inl rfl, Except.ok.inj h ▸ ⟨rfl, rfl⟩⟩))
  | di => exact .inr (.inr (.inl ⟨.inr (.inl rfl), Except.ok.inj h ▸ ⟨rfl, rfl⟩⟩))
  | reti =>
    obtain ⟨⟨v, u⟩, hu, h⟩ := Res.bind_eq_ok.mp h
    have hc : u.cpu.control = s.cpu.control := pop16_control hu
    rw [← Except.ok.inj h]
    exact .inr (.inr (.inl ⟨.inr (.inr rfl), congrArg (·.1.2) hc, congrArg (·.2) hc⟩))
  | halt => exact .inr (.inr (.inr ⟨.inl rfl, Except.ok.inj h ▸ ⟨rfl, rfl⟩⟩))
  | stop => exact .inr (.inr (.inr ⟨.inr rfl, Except.ok.inj h ▸ ⟨rfl, rfl⟩⟩))

theorem form_writes_ime {i : Instr} (h : i.form = .ei ∨ i.form = .di ∨ i.form = .reti) : i = .ei ∨ i = .di ∨ i = .reti := by
  cases i <;> simp [Instr.form] at h ⊢

theorem form_writes_halted {i : Instr} (h : i.form = .halt ∨ i.form = .stop) : i = .halt ∨ i = .stop := by
  cases i <;> simp [Instr.form] at h ⊢

/-- Settles O39: each of the three kinds of write is that of the instructions the statement names. -/
theorem controlStateAndFlagsWriters : Obligations.ControlStateAndFlagsWriters := by
  intro s t i h
  rcases formResult_control (exec_eq_next h) with hc | ⟨hw, hm⟩ | ⟨hx, hhalted, hf⟩ | ⟨hx, hime, hf⟩
  · exact ⟨fun hne => absurd (congrArg (·.1.1) hc) hne, fun hne => absurd (congrArg (·.1.2) hc) hne, fun _ => congrArg (·.2) hc⟩
  · refine ⟨fun hne => absurd (congrArg (·.1) hm) hne, fun hne => absurd (congrArg (·.2) hm) hne, fun hkeeps => ?_⟩
    generalize i.form = x at hw hkeeps
    cases x with
    | pop rr =>
      cases rr with
      | AF => exact hkeeps.elim
      | BC | DE | HL => cases hw
    | ldHLSPe | alu | aluN | inc8 | dec8 | daa | cpl | scf | ccf | addHL | addSPe | rlca | rrca | rla | rra | rot | bit | prefixed =>
      exact hkeeps.elim
    | _ => cases hw
  · exact ⟨fun _ => form_writes_ime hx, fun hne => absurd hhalted hne, fun _ => hf⟩
  · exact ⟨fun hne => absurd hime hne, fun _ => form_writes_halted hx, fun _ => hf⟩

end Sys2Proof.Machine
end

section
/-! PROOFS. The Bus: what a read and a write do in each range of the address map, where they answer, and block access
(20_memory.md R25-R43). -/

namespace Sys2Proof.Machine

/-! ### An access through the selected mapping -/

theorem busGet_of_selected {s : State} {a : Word} {m : Mapping} (h : selectMapping s a = some m) :
    busGet s a = regionGet s m.region a (a.toNat - m.first) := by
  unfold busGet; rw [h]

theorem busSet_of_selected {s : State} {a : Word} {m : Mapping} (h : selectMapping s a = some m) (v : Byte) :
    busSet s a v = regionSet s m.region a (a.toNat - m.first) v := by
  unfold busSet; rw [h]

theorem busGetBlock_of_selected {s : State} {a : Word} {m : Mapping} (h : selectMapping s a = some m) :
    busGetBlock s a = (regionBlock m.region).map fun base => base + (a.toNat - m.first) := by
  unfold busGetBlock; rw [h]

/-- A read at an offset from the start of the selected mapping. -/
theorem busGet_at {s : State} {a : Word} {m : Mapping} {off : Nat} (h : selectMapping s a = some m)
    (ha : a.toNat = m.first + off) : busGet s a = regionGet s m.region a off := by
  rw [busGet_of_selected h, ha, Nat.add_sub_cancel_left]

/-- A write at an offset from the start of the selected mapping. -/
theorem busSet_at {s : State} {a : Word} {m : Mapping} {off : Nat} (h : selectMapping s a = some m)
    (ha : a.toNat = m.first + off) (v : Byte) : busSet s a v = regionSet s m.region a off v := by
  rw [busSet_of_selected h, ha, Nat.add_sub_cancel_left]

theorem busGet_unmapped (s : State) {a : Word} (h : unmapped a) : busGet s a = .ok 0xFF := by
  unfold busGet; rw [selectMapping_unmapped s h]; rfl

theorem busSet_unmapped (s : State) {a : Word} (h : unmapped a) (v : Byte) : busSet s a v = .ok s := by
  unfold busSet; rw [selectMapping_unmapped s h]

/-! ### Plain RAM (R29, R31, R32, R41) -/

theorem unmirror_toNat (a : Word) : (unmirror a).toNat = if inRange 0xE000 0xFDFF a then a.toNat - 0x2000 else a.toNat := by
  unfold unmirror
  split
  · bv_omega
  · rfl

theorem plainRam_congr {a b : Word} (h : unmirror a = unmirror b) (ha : plainRam a) : plainRam b := by
  have hn : (unmirror a).toNat = (unmirror b).toNat := congrArg _ h
  rw [unmirror_toNat, unmirror_toNat] at hn
  split at hn <;> split at hn <;> omega

/-- The key of a plain RAM cell is a bus address. -/
theorem unmirror_lt (a : Word) : (unmirror a).toNat < cramBase := (unmirror a).isLt

/-- A plain RAM address selects one of the four contiguous regions, and its cell is keyed by its unmirrored address. -/
theorem selectMapping_plainRam (s : State) {a : Word} (h : plainRam a) : ∃ m base, selectMapping s a = some m ∧
    regionBlock m.region = some base ∧ base + (a.toNat - m.first) = (unmirror a).toNat := by
  rw [unmirror_toNat]
  rcases h with h | h | h | h
  · exact ⟨_, _, selectMapping_vram s h, rfl, by rw [if_neg (by omega)]; exact regionKey_eq h.1⟩
  · by_cases hm : inRange 0xE000 0xFDFF a
    · exact ⟨_, _, selectMapping_mirror s hm, rfl, by rw [if_pos hm, wramBase]; dsimp only; omega⟩
    · exact ⟨_, _, selectMapping_wram s (by omega), rfl, by rw [if_neg hm]; exact regionKey_eq h.1⟩
  · exact ⟨_, _, selectMapping_oam s h, rfl, by rw [if_neg (by omega)]; exact regionKey_eq h.1⟩
  · exact ⟨_, _, selectMapping_hram s h, rfl, by rw [if_neg (by omega)]; exact regionKey_eq h.1⟩

/-- Only plain RAM addresses select a region with contiguous storage. -/
theorem plainRam_of_regionBlock {s : State} {a : Word} {m : Mapping} {base : Nat} (h : selectMapping s a = some m)
    (hb : regionBlock m.region = some base) : plainRam a := by
  have hmap : ∀ m ∈ busMap, regionBlock m.region ≠ none → (0x8000 ≤ m.first ∧ m.last ≤ 0x9FFF) ∨
      (0xC000 ≤ m.first ∧ m.last ≤ 0xFDFF) ∨ (0xFE00 ≤ m.first ∧ m.last ≤ 0xFE9F) ∨ (0xFF80 ≤ m.first ∧ m.last ≤ 0xFFFE) := by
    decide
  obtain ⟨hm, hfirst, hlast, -⟩ := selectMapping_some h
  have hrange := hmap m hm (by rw [hb]; exact Option.some_ne_none base)
  omega

theorem regionGet_of_block {r : Region} {base : Nat} (h : regionBlock r = some base) (s : State) (a : Word) (off : Nat) :
    regionGet s r a off = .ok (s.peek (base + off)) := by
  cases r <;> cases h <;> rfl

theorem regionSet_of_block {r : Region} {base : Nat} (h : regionBlock r = some base) (s : State) (a : Word) (off : Nat) (v : Byte) :
    regionSet s r a off v = .ok (s.poke (base + off) v) := by
  cases r <;> cases h <;> rfl

theorem busGet_plainRam (s : State) {a : Word} (h : plainRam a) : busGet s a = .ok (s.peek (unmirror a).toNat) := by
  obtain ⟨m, base, hm, hb, hk⟩ := selectMapping_plainRam s h
  rw [busGet_of_selected hm, regionGet_of_block hb, hk]

theorem busSet_plainRam (s : State) {a : Word} (h : plainRam a) (v : Byte) : busSet s a v = .ok (s.poke (unmirror a).toNat v) := by
  obtain ⟨m, base, hm, hb, hk⟩ := selectMapping_plainRam s h
  rw [busSet_of_selected hm, regionSet_of_block hb, hk]

theorem busGetBlock_plainRam (s : State) {a : Word} (h : plainRam a) : busGetBlock s a = some (unmirror a).toNat := by
  obtain ⟨m, base, hm, hb, hk⟩ := selectMapping_plainRam s h
  rw [busGetBlock_of_selected hm, hb, Option.map_some, hk]

theorem busGetBlock_eq_none {s : State} {a : Word} (h : ¬ plainRam a) : busGetBlock s a = none := by
  cases hm : selectMapping s a with
  | none => unfold busGetBlock; rw [hm]
  | some m =>
    cases hb : regionBlock m.region with
    | none => rw [busGetBlock_of_selected hm, hb, Option.map_none]
    | some base => exact absurd (plainRam_of_regionBlock hm hb) h

/-- Settles O46: a byte read and block access reach the same cell of a contiguous region, and no other region has a block. -/
theorem blockAccessIsPlainRam : Obligations.BlockAccessIsPlainRam := fun s _ =>
  ⟨fun h => ⟨_, busGetBlock_plainRam s h, busGet_plainRam s h⟩, busGetBlock_eq_none⟩

/-! ### A store in plain RAM, and what reads see of it (R43) -/

/-- The arrays keyed above the bus addresses do not see a store at a bus address. -/
theorem peek_poke_above {s : State} (hw : Memory.wf s.mem = true) {k j : Nat} (hk : k < cramBase) (hj : cramBase ≤ j) (v : Byte) :
    (s.poke k v).peek j = s.peek j := by
  rw [State.peek_poke hw, if_neg (by omega)]

theorem mbcGet_poke {s : State} (hw : Memory.wf s.mem = true) {k : Nat} (hk : k < cramBase) (v : Byte) (a : Word) :
    mbcGet (s.poke k v) a = mbcGet s a := by
  have hrom : cramBase ≤ romBase := by decide
  have rom : ∀ j, (s.poke k v).peek (romBase + j) = s.peek (romBase + j) := fun j => peek_poke_above hw hk (by omega) v
  have cram : ∀ j, (s.poke k v).peek (cramBase + j) = s.peek (cramBase + j) := fun j => peek_poke_above hw hk (by omega) v
  simp only [mbcGet, rom, cram, State.poke_mbc, State.poke_cfg]

/-- A region with no contiguous storage reads the same after a store in plain RAM. -/
theorem regionGet_poke {s : State} (hw : Memory.wf s.mem = true) {k : Nat} (hk : k < cramBase) (v : Byte) {r : Region}
    (hr : regionBlock r = none) (a : Word) (off : Nat) : regionGet (s.poke k v) r a off = regionGet s r a off := by
  cases r with
  | bootRom =>
    have hboot : cramBase ≤ bootBase := by decide
    exact congrArg _ (peek_poke_above hw hk (by omega) v)
  | mbc1 => exact mbcGet_poke hw hk v a
  | vram | wram | oam | hram => cases hr
  | joypad | serial | timer | irqFlags | ppu | bootSwitch | irqEnable => rfl

theorem busGet_poke {s : State} (hw : Memory.wf s.mem = true) {k : Nat} (hk : k < cramBase) (v : Byte) {a : Word}
    (ha : ¬ plainRam a) : busGet (s.poke k v) a = busGet s a := by
  have hsel : selectMapping (s.poke k v) a = selectMapping s a := rfl
  cases hm : selectMapping s a with
  | none => unfold busGet; rw [hsel, hm]
  | some m =>
    cases hb : regionBlock m.region with
    | none => rw [busGet_of_selected (hsel.trans hm), busGet_of_selected hm, regionGet_poke hw hk v hb]
    | some base => exact absurd (plainRam_of_regionBlock hm hb) ha

/-- Settles O42: the write stores the byte in the cell of `a`, which the addresses that unmirror alike read, and no other. -/
theorem plainRamReadsBackWhatWasStored : Obligations.PlainRamReadsBackWhatWasStored := by
  intro s a v hw ha
  refine ⟨_, busSet_plainRam s ha v, fun b hb => ?_, fun b hb => ?_⟩
  · rw [busGet_plainRam _ (plainRam_congr hb.symm ha), State.peek_poke hw, if_pos (congrArg _ hb)]
  · by_cases hp : plainRam b
    · have hkey : (unmirror b).toNat ≠ (unmirror a).toNat := fun h => hb (BitVec.eq_of_toNat_eq h)
      rw [busGet_plainRam _ hp, busGet_plainRam _ hp, State.peek_poke hw, if_neg hkey]
    · exact busGet_poke hw (unmirror_lt a) v hp

/-! ### MBC1, window by window (R34-R40) -/

section
variable {s : State} {a : Word} {v : Byte}

theorem busGet_romWindow (h : inRange 0x0000 0x7FFF a) (hb : s.bootEnabled = true → 0x0100 ≤ a.toNat) : busGet s a = mbcGet s a :=
  busGet_of_selected (selectMapping_rom s h hb)

theorem busSet_romWindow (h : inRange 0x0000 0x7FFF a) (hb : s.bootEnabled = true → 0x0100 ≤ a.toNat) :
    busSet s a v = mbcSet s a v :=
  busSet_of_selected (selectMapping_rom s h hb) v

theorem busGet_cartRam (h : inRange 0xA000 0xBFFF a) : busGet s a = mbcGet s a := busGet_of_selected (selectMapping_cartRam s h)

theorem busSet_cartRam (h : inRange 0xA000 0xBFFF a) : busSet s a v = mbcSet s a v :=
  busSet_of_selected (selectMapping_cartRam s h) v

theorem mbcGet_lower (h : inRange 0x0000 0x3FFF a) : mbcGet s a = .ok (s.peek (romBase + a.toNat)) := by
  have hw : mbcWindow a = 0 ∨ mbcWindow a = 1 := by unfold mbcWindow; omega
  rcases hw with hw | hw <;> simp only [mbcGet, hw]

theorem mbcGet_upper (h : inRange 0x4000 0x7FFF a) : mbcGet s a =
    if upperBank s.mbc < romBanks s.cfg then .ok (s.peek (romBase + (upperBank s.mbc * 0x4000 + (a.toNat - 0x4000))))
    else .error (.romBankBeyondImage (upperBank s.mbc)) := by
  have hw : mbcWindow a = 2 ∨ mbcWindow a = 3 := by unfold mbcWindow; omega
  rcases hw with hw | hw <;> simp only [mbcGet, hw]

theorem mbcGet_cartRam (h : inRange 0xA000 0xBFFF a) : mbcGet s a =
    if s.mbc.ramEnabled then
      if cramIndex s.mbc a < ramBytes s.cfg then .ok (s.peek (cramBase + cramIndex s.mbc a))
      else .error (.cartRamBeyondSize (cramIndex s.mbc a))
    else .ok 0xFF := by
  simp only [mbcGet, mbcWindow_eq (n := 5) h, openBus]

theorem mbcSet_cartRam (h : inRange 0xA000 0xBFFF a) : mbcSet s a v =
    if s.mbc.ramEnabled then
      if cramIndex s.mbc a < ramBytes s.cfg then .ok (s.poke (cramBase + cramIndex s.mbc a) v)
      else .error (.cartRamBeyondSize (cramIndex s.mbc a))
    else .ok s := by
  simp only [mbcSet, mbcWindow_eq (n := 5) h]

theorem mbcSet_ramEnable (h : inRange 0x0000 0x1FFF a) :
    mbcSet s a v = .ok { s with mbc := { s.mbc with ramEnabled := decide (v &&& 0x0F = 0x0A) } } := by
  simp only [mbcSet, mbcWindow_eq (n := 0) h]

theorem mbcSet_bankLow (h : inRange 0x2000 0x3FFF a) :
    mbcSet s a v = .ok { s with mbc := { s.mbc with romBankLo := v.extractLsb' 0 5 } } := by
  simp only [mbcSet, mbcWindow_eq (n := 1) h]

theorem mbcSet_bankUpper (h : inRange 0x4000 0x5FFF a) : mbcSet s a v = .ok { s with mbc := mbcSetUpper s.mbc v } := by
  simp only [mbcSet, mbcWindow_eq (n := 2) h]

theorem mbcSet_mode (h : inRange 0x6000 0x7FFF a) : mbcSet s a v = .ok { s with mbc := mbcSetMode s.mbc v } := by
  simp only [mbcSet, mbcWindow_eq (n := 3) h]

end

theorem lowNibble_eq_ten (v : Byte) : v &&& 0x0F = 0x0A ↔ v.toNat % 16 = 0x0A := by
  have h : (v &&& 0x0F).toNat = v.toNat % 16 := by
    rw [BitVec.toNat_and]; exact Nat.and_two_pow_sub_one_eq_mod _ 4
  rw [← h]; exact BitVec.toNat_inj.symm

theorem extractLsb'_zero_eq_ofNat (v : Byte) (n : Nat) : v.extractLsb' 0 n = BitVec.ofNat n v.toNat := by
  rw [BitVec.extractLsb', Nat.shiftRight_zero]

theorem getLsbD_zero_eq (v : Byte) : v.getLsbD 0 = decide (v.toNat % 2 = 1) := by
  rw [BitVec.getLsbD, Nat.testBit_zero]

theorem mbcSetUpper_ram {m : Mbc1} (h : m.mode = .ramBanking) (v : Byte) :
    mbcSetUpper m v = { m with ramBank := BitVec.ofNat 2 v.toNat } := by
  unfold mbcSetUpper; rw [← extractLsb'_zero_eq_ofNat]; split
  · rfl
  next hrom => exact absurd (h.symm.trans hrom) (by decide)

theorem mbcSetUpper_rom {m : Mbc1} (h : m.mode = .romBanking) (v : Byte) :
    mbcSetUpper m v = { m with romBankHi := BitVec.ofNat 2 v.toNat } := by
  unfold mbcSetUpper; rw [← extractLsb'_zero_eq_ofNat]; split
  next hram => exact absurd (h.symm.trans hram) (by decide)
  · rfl

/-- Settles O43: outside the enabled boot ROM the address reaches MBC1, which decodes it by its window. -/
theorem bankRegisterWindows : Obligations.BankRegisterWindows := by
  intro s a v hboot
  have reach : a.toNat ≤ 0x7FFF → busSet s a v = mbcSet s a v := fun h => busSet_romWindow ⟨Nat.zero_le _, h⟩ hboot
  refine ⟨fun h => ?_, fun h => ?_, fun h hmode => ?_, fun h hmode => ?_, fun h hbit => ?_, fun h hbit => ?_⟩ <;>
    rw [reach (h.2.trans (by decide))]
  · simp only [mbcSet_ramEnable h, lowNibble_eq_ten]
  · rw [mbcSet_bankLow h, extractLsb'_zero_eq_ofNat]
  · rw [mbcSet_bankUpper h, mbcSetUpper_ram hmode]
  · rw [mbcSet_bankUpper h, mbcSetUpper_rom hmode]
  · rw [mbcSet_mode h, mbcSetMode, getLsbD_zero_eq, if_pos (decide_eq_true hbit)]
  · rw [mbcSet_mode h, mbcSetMode, getLsbD_zero_eq, if_neg (by simp [hbit])]

/-- The bank of the upper window, with the test on the latch's number. -/
theorem upperBank_eq (m : Mbc1) :
    upperBank m = m.romBankHi.toNat * 32 + (if m.romBankLo.toNat = 0 then 1 else m.romBankLo.toNat) := by
  have h : m.romBankLo = 0 ↔ m.romBankLo.toNat = 0 := BitVec.toNat_inj.symm
  simp only [upperBank, h]

/-- Settles O44: the two windows of MBC1, with the bank and the index of the latches. -/
theorem bankedCartridgeAccess : Obligations.BankedCartridgeAccess := by
  intro s a v bank i hbank hi
  refine ⟨?_, fun h => ?_, fun h => ?_⟩
  · rw [hbank]; split <;> omega
  · rw [busGet_romWindow ⟨Nat.zero_le _, h.2⟩ (fun _ => le_trans (by decide) h.1), mbcGet_upper h, upperBank_eq, ← hbank]
  · have hi : cramIndex s.mbc a = i := hi.symm
    rw [busGet_cartRam h, busSet_cartRam h, mbcGet_cartRam h, mbcSet_cartRam h, hi]
    refine ⟨fun hoff => ?_, fun hon hlt => ?_, fun hon hge => ?_⟩
    · rw [hoff]; exact ⟨rfl, rfl⟩
    · rw [hon, if_pos rfl, if_pos rfl, if_pos hlt, if_pos hlt]; exact ⟨rfl, rfl⟩
    · rw [hon, if_pos rfl, if_pos rfl, if_neg (by omega), if_neg (by omega)]; exact ⟨rfl, rfl⟩

/-! ### The address map (R26-R33, R42; 10_state.md R17-R20; 61_ppu.md R163) -/

theorem statByte_eq (p : Ppu) : statByte p =
    (p.statW &&& 0xF8#8) ||| ((BitVec.ofBool p.coincidence).setWidth 8 <<< 2) ||| modeBits p.mode := rfl

theorem statByte_stored (p : Ppu) {k : Nat} (hk : 3 ≤ k) : (statByte p).getLsbD k = p.statW.getLsbD k := by
  by_cases h8 : k < 8
  · have hmode : (modeBits p.mode).getLsbD k = false := by cases p.mode <;> interval_cases k <;> rfl
    have hmask : (0xF8#8).getLsbD k = true := by interval_cases k <;> rfl
    have hflag : k - 2 ≠ 0 := by omega
    simp [statByte_eq, hmode, hmask, hflag]
  · rw [BitVec.getLsbD_of_ge _ _ (by omega), BitVec.getLsbD_of_ge _ _ (by omega)]

theorem statByte_coincidence (p : Ppu) : (statByte p).getLsbD 2 = p.coincidence := by
  have hmode : (modeBits p.mode)[2] = false := by cases p.mode <;> rfl
  simp [statByte_eq, hmode]

theorem toNat_or_mod_four (x y : Byte) : (x ||| y).toNat % 4 = x.toNat % 4 ||| y.toNat % 4 := by
  rw [BitVec.toNat_or]; exact Nat.or_mod_two_pow (n := 2)

theorem statByte_mode (p : Ppu) : (statByte p).toNat % 4 = (modeBits p.mode).toNat := by
  have hstored : (p.statW &&& 0xF8#8).toNat % 4 = 0 := by generalize p.statW = w; revert w; decide
  have hflag : ((BitVec.ofBool p.coincidence).setWidth 8 <<< 2 : Byte).toNat % 4 = 0 := by cases p.coincidence <;> rfl
  have hmode : (modeBits p.mode).toNat % 4 = (modeBits p.mode).toNat := by cases p.mode <;> rfl
  rw [statByte_eq, toNat_or_mod_four, toNat_or_mod_four, hstored, hflag, hmode, Nat.zero_or, Nat.zero_or]

section
variable (s : State) {a : Word} {off : Nat}

theorem busGet_serial (ha : a.toNat = 0xFF01 + off) (hoff : off < 2) :
    busGet s a = .ok (if off = 0 then s.serial.sb else s.serial.sc) :=
  busGet_at (selectMapping_serial s (by omega)) ha

theorem busGet_timer (ha : a.toNat = 0xFF04 + off) (hoff : off < 4) : busGet s a = .ok (timerGet s.timer off) :=
  busGet_at (selectMapping_timer s (by omega)) ha

theorem busGet_ppu (ha : a.toNat = 0xFF40 + off) (hoff : off < 12) : busGet s a = .ok (ppuGet s.ppu off) :=
  busGet_at (selectMapping_ppu s (by omega)) ha

theorem busSet_timer (ha : a.toNat = 0xFF04 + off) (hoff : off < 4) (v : Byte) :
    busSet s a v = .ok { s with timer := timerSet s.timer v off } :=
  busSet_at (selectMapping_timer s (by omega)) ha v

theorem busSet_ppu (ha : a.toNat = 0xFF40 + off) (hoff : off < 12) (v : Byte) : busSet s a v = ppuRegionSet s off v :=
  busSet_at (selectMapping_ppu s (by omega)) ha v

end

/-- Settles O40: each address selects its mapping, and the region gives its byte. -/
theorem busReadsFollowTheMap : Obligations.BusReadsFollowTheMap := by
  intro s a
  refine ⟨fun hb h => ?_, fun hb h => ?_, fun h => ?_, busGet_plainRam s, busGet_unmapped s,
    busGet_serial s (off := 0) rfl (by decide), busGet_serial s (off := 1) rfl (by decide),
    busGet_timer s (off := 0) rfl (by decide), busGet_timer s (off := 1) rfl (by decide),
    busGet_timer s (off := 2) rfl (by decide), busGet_timer s (off := 3) rfl (by decide),
    busGet_of_selected (selectMapping_irqFlags s (by decide)), busGet_of_selected (selectMapping_irqEnable s (by decide)),
    busGet_ppu s (off := 0) rfl (by decide), busGet_ppu s (off := 2) rfl (by decide), busGet_ppu s (off := 3) rfl (by decide),
    busGet_ppu s (off := 4) rfl (by decide), busGet_ppu s (off := 5) rfl (by decide), busGet_ppu s (off := 6) rfl (by decide),
    busGet_ppu s (off := 7) rfl (by decide), busGet_ppu s (off := 8) rfl (by decide), busGet_ppu s (off := 9) rfl (by decide),
    busGet_ppu s (off := 10) rfl (by decide), busGet_ppu s (off := 11) rfl (by decide),
    busGet_of_selected (selectMapping_bootSwitch s (by decide)),
    statByte s.ppu, busGet_ppu s (off := 1) rfl (by decide), fun _ => statByte_stored s.ppu, statByte_coincidence s.ppu, ?_⟩
  · rw [busGet_of_selected (selectMapping_bootRom s h hb)]; rfl
  · rw [busGet_romWindow ⟨h.1, h.2.trans (by decide)⟩ (fun hb' => absurd (hb'.symm.trans hb) (by decide)), mbcGet_lower h]
  · rw [busGet_romWindow ⟨Nat.zero_le _, h.2.trans (by decide)⟩ (fun _ => h.1), mbcGet_lower ⟨Nat.zero_le _, h.2⟩]
  · rw [statByte_mode]; cases s.ppu.mode <;> rfl

/-- Settles O41: each address selects its mapping, and the region stores the byte or ignores it. -/
theorem busWritesFollowTheMap : Obligations.BusWritesFollowTheMap := by
  intro s a v
  exact ⟨fun hb h => busSet_of_selected (selectMapping_bootRom s h hb) v, fun h => busSet_plainRam s h v,
    fun h => busSet_unmapped s h v,
    busSet_timer s (off := 0) rfl (by decide) v, busSet_timer s (off := 1) rfl (by decide) v,
    busSet_timer s (off := 2) rfl (by decide) v, busSet_timer s (off := 3) rfl (by decide) v,
    busSet_of_selected (selectMapping_irqFlags s (by decide)) v, busSet_of_selected (selectMapping_irqEnable s (by decide)) v,
    busSet_ppu s (off := 0) rfl (by decide) v, busSet_ppu s (off := 1) rfl (by decide) v,
    busSet_ppu s (off := 2) rfl (by decide) v, busSet_ppu s (off := 3) rfl (by decide) v,
    busSet_ppu s (off := 4) rfl (by decide) v, busSet_ppu s (off := 5) rfl (by decide) v,
    busSet_ppu s (off := 7) rfl (by decide) v, busSet_ppu s (off := 8) rfl (by decide) v,
    busSet_ppu s (off := 9) rfl (by decide) v, busSet_ppu s (off := 10) rfl (by decide) v,
    busSet_ppu s (off := 11) rfl (by decide) v,
    busSet_of_selected (selectMapping_bootSwitch s (by decide)) v⟩

/-! ### Where accesses answer (R25, R39, R40) -/

/-- A guarded access answers where its guard holds. -/
theorem guarded_answers {α : Type} {c : Prop} [Decidable c] {x : α} {r : Refusal} :
    (∃ b, (if c then .ok x else .error r : Res α) = .ok b) ↔ c := by
  split <;> simp [*]

theorem readable_upper_iff {s : State} {a : Word} (h : inRange 0x4000 0x7FFF a) :
    readable s a ↔ upperBank s.mbc < romBanks s.cfg :=
  ⟨fun ⟨hr, _⟩ => Nat.lt_of_not_le fun hle => hr ⟨h, hle⟩,
    fun hlt => ⟨fun hr => Nat.not_le_of_lt hlt hr.2, fun hc => absurd hc.1.1 (by omega)⟩⟩

theorem not_cramBeyond_iff {s : State} {a : Word} (h : inRange 0xA000 0xBFFF a) :
    ¬ cramBeyond s a ↔ (s.mbc.ramEnabled = true → cramIndex s.mbc a < ramBytes s.cfg) :=
  ⟨fun hc hon => Nat.lt_of_not_le fun hle => hc ⟨h, hon, hle⟩, fun hlt hc => Nat.not_le_of_lt (hlt hc.2.1) hc.2.2⟩

/-- An access guarded only while `e` holds answers where the guard holds or `e` does not. -/
theorem enabled_guarded_answers {α : Type} {e c : Prop} [Decidable e] [Decidable c] {x y : α} {r : Refusal} :
    (∃ b, (if e then (if c then .ok x else .error r) else .ok y : Res α) = .ok b) ↔ (e → c) := by
  by_cases he : e
  · rw [if_pos he, guarded_answers, forall_prop_of_true he]
  · rw [if_neg he]; exact iff_of_true ⟨y, rfl⟩ fun h => absurd h he

theorem mbcGet_cartRam_answers {s : State} {a : Word} (h : inRange 0xA000 0xBFFF a) :
    (∃ b, mbcGet s a = .ok b) ↔ ¬ cramBeyond s a := by
  rw [mbcGet_cartRam h, enabled_guarded_answers, not_cramBeyond_iff h]

theorem mbcSet_cartRam_answers {s : State} {a : Word} {v : Byte} (h : inRange 0xA000 0xBFFF a) :
    (∃ t, mbcSet s a v = .ok t) ↔ ¬ cramBeyond s a := by
  rw [mbcSet_cartRam h, enabled_guarded_answers, not_cramBeyond_iff h]

/-- A write of a register window of MBC1 always answers. -/
theorem mbcSet_rom_answers (s : State) {a : Word} (h : a.toNat ≤ 0x7FFF) (v : Byte) : ∃ t, mbcSet s a v = .ok t := by
  have hwindow : inRange 0x0000 0x1FFF a ∨ inRange 0x2000 0x3FFF a ∨ inRange 0x4000 0x5FFF a ∨ inRange 0x6000 0x7FFF a := by omega
  rcases hwindow with hw | hw | hw | hw
  · exact ⟨_, mbcSet_ramEnable hw⟩
  · exact ⟨_, mbcSet_bankLow hw⟩
  · exact ⟨_, mbcSet_bankUpper hw⟩
  · exact ⟨_, mbcSet_mode hw⟩

/-- MBC1 is selected in its two ranges alone. -/
theorem range_of_mbc1 {s : State} {a : Word} {m : Mapping} (h : selectMapping s a = some m) (hr : m.region = .mbc1) :
    a.toNat ≤ 0x7FFF ∨ inRange 0xA000 0xBFFF a := by
  have hmap : ∀ m ∈ busMap, m.region = .mbc1 → m.last = 0x7FFF ∨ m.first = 0xA000 ∧ m.last = 0xBFFF := by decide
  obtain ⟨hm, hfirst, hlast, -⟩ := selectMapping_some h
  rcases hmap m hm hr with hl | ⟨hf, hl⟩
  · exact .inl (hl ▸ hlast)
  · exact .inr ⟨hf ▸ hfirst, hl ▸ hlast⟩

/-- Outside the two banked windows a read answers. -/
theorem busGet_answers_outside (s : State) {a : Word} (hrom : ¬ inRange 0x4000 0x7FFF a) (hcram : ¬ inRange 0xA000 0xBFFF a) :
    ∃ b, busGet s a = .ok b := by
  cases hm : selectMapping s a with
  | none => unfold busGet; rw [hm]; exact ⟨_, rfl⟩
  | some m =>
    rw [busGet_of_selected hm]
    cases hr : m.region with
    | mbc1 =>
      have hlow : a.toNat ≤ 0x7FFF := (range_of_mbc1 hm hr).resolve_right hcram
      exact ⟨_, mbcGet_lower (by omega)⟩
    | _ => exact ⟨_, rfl⟩

theorem busGet_answers (s : State) (a : Word) : (∃ b, busGet s a = .ok b) ↔ readable s a := by
  by_cases hrom : inRange 0x4000 0x7FFF a
  · rw [busGet_romWindow ⟨Nat.zero_le _, hrom.2⟩ (fun _ => by omega), mbcGet_upper hrom, guarded_answers, readable_upper_iff hrom]
  have hr : readable s a ↔ ¬ cramBeyond s a := and_iff_right fun hr => hrom hr.1
  by_cases hcram : inRange 0xA000 0xBFFF a
  · rw [busGet_cartRam hcram, mbcGet_cartRam_answers hcram, hr]
  · exact iff_of_true (busGet_answers_outside s hrom hcram) (hr.mpr fun hc => hcram hc.1)

theorem dmaCopy_answers {page : Byte} {count i : Nat} {s : State} : (∃ t, dmaCopy page count i s = .ok t) ↔
    ∀ j, i ≤ j → j < i + count → readable s (BitVec.ofNat 16 (page.toNat * 0x100 + j)) := by
  induction count generalizing i s with
  | zero => exact ⟨fun _ j hi hj => absurd hj (by omega), fun _ => ⟨s, rfl⟩⟩
  | succ n ih =>
    constructor
    · rintro ⟨t, h⟩ j hi hj
      obtain ⟨b, hb, h⟩ := Res.bind_eq_ok.mp h
      rcases Nat.eq_or_lt_of_le hi with rfl | hlt
      · exact (busGet_answers _ _).mp ⟨b, hb⟩
      · exact ih.mp ⟨t, h⟩ j hlt (by omega)
    · intro h
      obtain ⟨b, hb⟩ := (busGet_answers _ _).mpr (h i le_rfl (by omega))
      obtain ⟨t, ht⟩ := (ih (i := i + 1) (s := s.poke (oamBase + i) b)).mpr fun j hi hj => h j (by omega) (by omega)
      exact ⟨t, Res.bind_eq_ok.mpr ⟨b, hb, ht⟩⟩

/-- Outside the cartridge RAM window a write answers, a write to `DMA` apart. -/
theorem busSet_answers_outside (s : State) {a : Word} (hcram : ¬ inRange 0xA000 0xBFFF a) (hdma : a ≠ 0xFF46) (v : Byte) :
    ∃ t, busSet s a v = .ok t := by
  cases hm : selectMapping s a with
  | none => unfold busSet; rw [hm]; exact ⟨_, rfl⟩
  | some m =>
    rw [busSet_of_selected hm]
    cases hr : m.region with
    | mbc1 => exact mbcSet_rom_answers s ((range_of_mbc1 hm hr).resolve_right hcram) v
    | ppu =>
      have hfirst : ∀ m ∈ busMap, m.region = .ppu → m.first = 0xFF40 := by decide
      have hoff : a.toNat - m.first ≠ 6 := fun h6 =>
        hdma (BitVec.eq_of_toNat_eq (show a.toNat = 0xFF46 by have := hfirst m (selectMapping_some hm).1 hr; omega))
      exact ⟨_, if_neg hoff⟩
    | _ => exact ⟨_, rfl⟩

theorem busSet_answers (s : State) (a : Word) (v : Byte) : (∃ t, busSet s a v = .ok t) ↔ storable s a v := by
  by_cases hcram : inRange 0xA000 0xBFFF a
  · have hdma : a ≠ 0xFF46 := by rintro rfl; exact absurd hcram.2 (by decide)
    have hs : storable s a v ↔ ¬ cramBeyond s a := and_iff_left fun h => absurd h hdma
    rw [busSet_cartRam hcram, mbcSet_cartRam_answers hcram, hs]
  have hc : ¬ cramBeyond s a := fun hc => hcram hc.1
  by_cases ha : a = 0xFF46
  · rw [ha, busSet_ppu s (off := 6) rfl (by decide), ppuRegionSet, if_pos rfl, dmaCopy_answers]
    exact ⟨fun h => ⟨ha ▸ hc, fun _ i hi => h i (Nat.zero_le i) (by rwa [Nat.zero_add])⟩,
      fun h i _ hi => h.2 rfl i (by rwa [Nat.zero_add] at hi)⟩
  · exact iff_of_true (busSet_answers_outside s hcram ha v) ⟨hc, fun h => absurd h ha⟩

/-- Settles O45: the Bus's reads and writes answer where the spec gives a result. -/
theorem accessesAnswerWhereTheSpecDoes : Obligations.AccessesAnswerWhereTheSpecDoes :=
  fun s a v => ⟨busGet_answers s a, busSet_answers s a v⟩

end Sys2Proof.Machine
end

section
/-! PROOFS. What an instruction and a step leave of memory (10_state.md R6-R15; 20_memory.md R25, R31, R33, R36-R40, R43). -/

namespace Sys2Proof.Machine

/-! ### An instruction that stores nothing -/

/-- Everything but the CPU registers is as in `s`. -/
def SameButCpu (s u : State) : Prop := u = { s with cpu := u.cpu }

theorem SameButCpu.withCpu {s u : State} (h : SameButCpu s u) (c : Cpu) : SameButCpu s { u with cpu := c } := by
  unfold SameButCpu at h ⊢; rw [h]

theorem SameButCpu.peek {s u : State} (h : SameButCpu s u) (k : Nat) : u.peek k = s.peek k := by
  rw [h]; rfl

/-- Settles O37: with no address written, an operation is a sequence of register updates. -/
theorem instructionsThatStoreNothingKeepMemory : Obligations.InstructionsThatStoreNothingKeepMemory := by
  intro s t i hnone h
  have ht : SameButCpu s t := formResult_induct (P := SameButCpu s) (L := []) (fun _ c _ hu => hu.withCpu c)
    (fun _ _ _ _ ha => absurd ha List.not_mem_nil) (fun _ ha => hnone ▸ ha) rfl (exec_eq_next h)
  exact ⟨ht, ht.peek⟩

/-! ### An instruction that stores -/

theorem selectMapping_congr {s u : State} {b : Word} (h : 0x7FFF < b.toNat) : selectMapping u b = selectMapping s b := by
  have hboot (s : State) : ¬ (b.toNat ≤ 0xFF ∧ s.bootEnabled = true) := fun hc => absurd hc.1 (by omega)
  rw [selectMapping_eq, selectMapping_eq, if_neg (hboot u), if_neg (hboot s)]

/-- The key of an address depends on no part of the state but, in the cartridge RAM window, the latches of MBC1. -/
theorem storeKey_congr_window {s u : State} {b : Word} (h : inRange 0xA000 0xBFFF b → u.mbc = s.mbc) :
    storeKey u b = storeKey s b := by
  by_cases hrom : b.toNat ≤ 0x7FFF
  · rw [storeKey_rom u hrom, storeKey_rom s hrom]
  · have hsel : selectMapping u b = selectMapping s b := selectMapping_congr (by omega)
    by_cases hcram : inRange 0xA000 0xBFFF b
    · unfold storeKey; rw [hsel, h hcram]
    · have hw (s : State) : ¬ (mbcWindow b = 5 ∧ s.mbc.ramEnabled = true) := fun hc => by
        have := hc.1; unfold mbcWindow at this; omega
      unfold storeKey; rw [hsel, if_neg (hw u), if_neg (hw s)]

/-- A write moves no key but, from the register windows of MBC1, those of cartridge RAM. -/
theorem storeKey_of_busSet {s u : State} {a : Word} {v : Byte} (h : busSet s a v = .ok u) {b : Word}
    (hb : a.toNat ≤ 0x7FFF → ¬ inRange 0xA000 0xBFFF b) : storeKey u b = storeKey s b := by
  refine storeKey_congr_window fun hcram => ?_
  rcases busSet_cases h with rfl | ⟨hrom, -⟩ | ⟨k, -, -, -, rfl⟩ | rfl | ⟨x, rfl⟩ | ⟨off, rfl⟩ | rfl | rfl |
    ⟨off, -, rfl⟩ | ⟨-, hcopy⟩ | ⟨-, rfl⟩
  case inr.inl => exact absurd hcram (hb hrom)
  case inr.inr.inr.inr.inr.inr.inr.inr.inr.inl => rw [dmaCopy_frame hcopy]
  all_goals rfl

/-- The addresses of nothing, of a byte, or of a word. -/
def AtMostAWord (l : List Word) : Prop := l = [] ∨ (∃ a, l = [a]) ∨ ∃ a, l = [a, a + 1]

theorem atMostAWord_memoryAt (s : State) (r : R8) : AtMostAWord (memoryAt s r) := by
  unfold memoryAt
  split
  · exact .inr (.inl ⟨_, rfl⟩)
  · exact .inl rfl

theorem atMostAWord_stackPair (s : State) : AtMostAWord (stackPair s) :=
  .inr (.inr ⟨s.cpu.sp - 2, by rw [stackPair, show s.cpu.sp - 2 + 1 = s.cpu.sp - 1 by ring]⟩)

theorem atMostAWord_storesAt (x : Form) (s : State) : AtMostAWord (storesAt x s) := by
  have operand : ∀ r, AtMostAWord (memoryAt s r) := atMostAWord_memoryAt s
  have stack : AtMostAWord (stackPair s) := atMostAWord_stackPair s
  cases x with
  | ld8 d _ => exact operand d
  | ld8n d _ => exact operand d
  | inc8 r | dec8 r | rot _ r | res _ r | set _ r => exact operand r
  | prefixed op2 =>
    rw [storesAt]
    split
    · exact .inl rfl
    · exact operand _
  | ldIndA | ldAbsA | ldhnA | ldhCA | ldHLincA | ldHLdecA => exact .inr (.inl ⟨_, rfl⟩)
  | ldAbsSP => exact .inr (.inr ⟨_, rfl⟩)
  | push | call | rst => exact stack
  | callCond =>
    rw [storesAt]
    split
    · exact stack
    · exact .inl rfl
  | _ => exact .inl rfl

/-- Where an instruction writes a register window of MBC1, it writes no cell of cartridge RAM. -/
theorem storesAt_window {x : Form} {s : State} {a b : Word} (ha : a ∈ storesAt x s) (hb : b ∈ storesAt x s)
    (hrom : a.toNat ≤ 0x7FFF) : ¬ inRange 0xA000 0xBFFF b := by
  rintro ⟨hfirst, hlast⟩
  have hne : b ≠ a := by rintro rfl; omega
  rcases atMostAWord_storesAt x s with h | ⟨c, h⟩ | ⟨c, h⟩ <;> rw [h] at ha hb
  · exact absurd ha List.not_mem_nil
  · exact hne ((List.mem_singleton.mp hb).trans (List.mem_singleton.mp ha).symm)
  · simp only [List.mem_cons, List.not_mem_nil, or_false] at ha hb
    rcases ha with rfl | rfl <;> rcases hb with rfl | rfl <;> bv_omega

/-- What the writes at `L` keep of the storage of `s`: every cell but those keyed by `L`, and these keys themselves. -/
structure KeepsOutside (L : List Word) (s u : State) : Prop where
  form : Memory.wf u.mem = true
  keys : ∀ a ∈ L, storeKey u a = storeKey s a
  cells : ∀ k, (∀ a ∈ L, storeKey s a ≠ some k) → u.peek k = s.peek k

theorem KeepsOutside.busSet {L : List Word} {s u u' : State} {a : Word} {v : Byte} (hu : KeepsOutside L s u) (ha : a ∈ L)
    (hdma : a ≠ 0xFF46) (hL : ∀ b ∈ L, a.toNat ≤ 0x7FFF → ¬ inRange 0xA000 0xBFFF b) (h : busSet u a v = .ok u') :
    KeepsOutside L s u' where
  form := busSet_wf hu.form h
  keys b hb := (storeKey_of_busSet h (hL b hb)).trans (hu.keys b hb)
  cells k hk := (busSet_other hu.form h hdma (hu.keys a ha ▸ hk a ha)).trans (hu.cells k hk)

/-- Settles O38: the instruction's writes are at `storesAt`, and none of them moves the key of another. -/
theorem storingInstructionsKeepOtherMemory : Obligations.StoringInstructionsKeepOtherMemory := by
  intro s t i hw h hdma
  have ht : KeepsOutside (storesAt i.form s) s t :=
    formResult_induct (P := KeepsOutside (storesAt i.form s) s) (L := storesAt i.form s)
      (fun _ _ _ hu => ⟨hu.form, hu.keys, hu.cells⟩)
      (fun _ _ _ _ ha hu h => hu.busSet ha (fun e => hdma (e ▸ ha)) (fun _ hb => storesAt_window ha hb) h)
      (fun _ ha => ha) ⟨hw, fun _ _ => rfl, fun _ _ => rfl⟩ (exec_eq_next h)
  exact ht.cells

/-! ### A step -/

/-- What stays of `s` for the whole run: the parameters, the bytes of `ROM` and `BOOT_ROM`, and a disabled boot ROM. -/
structure KeepsReadOnly (s u : State) : Prop where
  form : Memory.wf u.mem = true
  cfg : u.cfg = s.cfg
  boot : u.bootEnabled = true → s.bootEnabled = true
  rom : ∀ k, bootBase ≤ k → u.peek k = s.peek k

theorem KeepsReadOnly.busSet {s u u' : State} {a : Word} {v : Byte} (hu : KeepsReadOnly s u) (h : busSet u a v = .ok u') :
    KeepsReadOnly s u' where
  form := busSet_wf hu.form h
  cfg := (busSet_frame h).2.1.trans hu.cfg
  boot hb := hu.boot (busSet_bootEnabled h hb)
  rom k hk := (busSet_rom hu.form h hk).trans (hu.rom k hk)

/-- Settles O58: only the CPU's phase writes memory, and it does so through the Bus. -/
theorem readOnlyStateStays : Obligations.ReadOnlyStateStays := by
  intro s t hw h
  obtain ⟨s1, c, hcpu, rfl⟩ := step_eq_next.mp h
  obtain ⟨j, q, es, hinputs⟩ := deliverInputs_frame s
  have h0 : KeepsReadOnly s (deliverInputs s) := by rw [hinputs]; exact ⟨hw, rfl, id, fun _ _ => rfl⟩
  obtain ⟨-, hcfg, hboot, hrom⟩ : KeepsReadOnly s s1 := cpuStep_induct (P := KeepsReadOnly s)
    (fun _ _ _ hu => ⟨hu.form, hu.cfg, hu.boot, hu.rom⟩) (fun _ _ _ _ hu h => hu.busSet h)
    (fun _ _ hu => ⟨hu.form, hu.cfg, hu.boot, hu.rom⟩) h0 hcpu
  obtain ⟨x, q, htimer⟩ := timerTick_frame c s1
  obtain ⟨ly, acc, mode, hit, back, front, q', hppu⟩ := ppuTick_frame c (timerTick c s1)
  rw [hppu, htimer]
  exact ⟨hcfg, hboot, hrom⟩

end Sys2Proof.Machine
end

section
/-! PROOFS. The opcode maps by the fields of their bytes, and the bounds of the cycle costs (30_encoding.md R48-R54, R57). -/

namespace Sys2Proof.Machine

/-! ### The unprefixed map (30_encoding.md R51, R52) -/

/-- A first byte by its fields x, y, z. -/
theorem byte_of_fields (op : Byte) : ∃ (x : Fin 4) (y z : Fin 8), op = BitVec.ofNat 8 (64 * x + 8 * y + z) := by
  refine ⟨⟨op.toNat / 64, by omega⟩, ⟨op.toNat / 8 % 8, by omega⟩, ⟨op.toNat % 8, by omega⟩, BitVec.eq_of_toNat_eq ?_⟩
  simp only [BitVec.toNat_ofNat]
  omega

/-- The form of the instruction that a row selects with the bytes `b1`, `b2` after the first one; the prefix byte's row selects none. -/
def rowForm (b1 b2 : Byte) : Row → Option Form
  | .op i => some i.form
  | .opN mk => some (mk b1).form
  | .opNN mk => some (mk (wordOf b2 b1)).form
  | .cbOp => none

/-- The decoder reads from three bytes the instruction that the row of the first one selects. -/
theorem decode_of_rowForm {op b1 b2 : Byte} {x : Form} (h : rowForm b1 b2 (row op) = some x) :
    ∃ i rest, decode [op, b1, b2] = .ok (i, rest) ∧ i.form = x := by
  simp only [decode]
  cases hr : row op with
  | op i | opN mk | opNN mk =>
    rw [hr] at h
    exact ⟨_, _, rfl, Option.some.inj h⟩
  | cbOp =>
    rw [hr] at h
    cases h

/-- Settles O3: the rows are compared with R52's entries, for every x, z and y; only the prefix byte's row has no form. The bytes
after the first stay variables, so an entry's immediate is right for every value of it. -/
theorem unprefixedMapFollowsTheFields : Obligations.UnprefixedMapFollowsTheFields := by
  intro op b1 b2 x y z p q nn form hop
  have entry : rowForm b1 b2 (row op) = if op = 0xCB then none else some form := by
    clear hop
    obtain ⟨x', y', z', rfl⟩ := byte_of_fields op
    fin_cases x', z', y' <;> rfl
  exact decode_of_rowForm (entry.trans (if_neg hop))

/-! ### The prefixed map (30_encoding.md R51, R53) -/

/-- The 32 rows of the prefixed table in four groups of eight, the operand being any slot of `reg8`. -/
theorem cbRow_form (k : Fin 32) (r : R8) :
    ((cbRows.getD k .rlc) r).form = (if k.val / 8 = 0 then .rot (RotOp.ofIndex (k % 8)) r
      else if k.val / 8 = 1 then .bit (Fin.ofNat 8 (k % 8)) r
      else if k.val / 8 = 2 then .res (Fin.ofNat 8 (k % 8)) r else .set (Fin.ofNat 8 (k % 8)) r) := by
  fin_cases k <;> rfl

/-- Settles O4: x is the group of the row that bits 7:3 select, and y its place in the group. -/
theorem prefixedMapFollowsTheFields : Obligations.PrefixedMapFollowsTheFields := by
  intro op2 rest x y r
  have hx : op2.toNat / 8 / 8 = x := Nat.div_div_eq_div_mul ..
  refine ⟨cbInstr op2, rfl, ?_⟩
  rw [← hx]
  exact cbRow_form ⟨op2.toNat / 8, by omega⟩ r

/-! ### The cycle costs (30_encoding.md R57; 70_reset_and_hazards.md R186) -/

/-- A positive multiple of 4 of at most 24: the costs of R57. -/
abbrev CostOk (c : Nat) : Prop := c % 4 = 0 ∧ 4 ≤ c ∧ c ≤ 24

theorem CostOk.byOperand {m n : Nat} (hm : CostOk m) (hn : CostOk n) (r : R8) : CostOk (byOperand r m n) := by
  cases r with
  | atHL => exact hn
  | B | C | D | E | H | L | A => exact hm

theorem CostOk.byCond {m n : Nat} (hm : CostOk m) (hn : CostOk n) (cc : Cond) (f : Byte) : CostOk (byCond cc f m n) := by
  unfold Machine.byCond
  split
  · exact hm
  · exact hn

/-- Every form but an undefined opcode's has a cost of R57, whatever its operands and the flags. -/
theorem costOk_formCycles {x : Form} (hx : ∀ op, x ≠ .illegal op) (f : Byte) : CostOk (formCycles x f) := by
  cases x with
  | illegal op => exact (hx op rfl).elim
  | ld8 d r => exact .byOperand (.byOperand (by decide) (by decide) r) (by decide) d
  | alu _ r | ld8n r _ | inc8 r | dec8 r | rot _ r | bit _ r | res _ r | set _ r => exact .byOperand (by decide) (by decide) r
  | prefixed op2 => exact .byOperand (by decide) (by split <;> decide) _
  | jpCond cc _ | jrCond cc _ | callCond cc _ | retCond cc => exact .byCond (by decide) (by decide) cc f
  | _ => simp only [CostOk, formCycles, Nat.reduceMod, Nat.reduceLeDiff, and_self]

theorem condHolds_iff (cc : Cond) (f : Byte) : condHolds cc f = true ↔ ConditionMet cc f := by
  cases cc <;> simp [condHolds, ConditionMet, flagZ, flagC]

theorem byCond_lt {cc : Cond} {f g : Byte} (hf : ConditionMet cc f) (hg : ¬ ConditionMet cc g) {taken notTaken : Nat}
    (h : notTaken < taken) : byCond cc g taken notTaken < byCond cc f taken notTaken := by
  rw [← condHolds_iff] at hf hg
  rwa [byCond, if_neg hg, byCond, if_pos hf]

theorem form_illegal {i : Instr} {op : Byte} (h : i.form = .illegal op) : i = .illegal op := by
  cases i <;> simp [Instr.form] at h ⊢
  exact h

/-- Settles O60: the costs are a table over the form, and the four conditional forms cost less in its untaken column. -/
theorem cyclesAreBounded : Obligations.CyclesAreBounded := by
  intro i s hi
  obtain ⟨hmod, hmin, hmax⟩ : CostOk (cycles i s) := costOk_formCycles (fun op h => hi op (form_illegal h)) s.cpu.f
  refine ⟨hmod, hmin, hmax, fun cc t hx hmet hnot => ?_⟩
  have hlt {taken notTaken : Nat} := byCond_lt (taken := taken) (notTaken := notTaken) hmet hnot
  unfold cycles
  obtain ⟨nn, h | h⟩ | ⟨eb, h⟩ | h := hx <;> rw [h]
  · exact hlt (by decide : 12 < 16)
  · exact hlt (by decide : 12 < 24)
  · exact hlt (by decide : 8 < 12)
  · exact hlt (by decide : 8 < 20)

end Sys2Proof.Machine
end

section
/-! PROOFS. The bytes of an instruction by its form (30_encoding.md R51-R53), and the cost that depends on an operand, as the statements
write them. -/

namespace Sys2Proof.Machine

/-- The bytes of each form: the rows of R52 and R53 with the operands' indices in their fields. An operation of `alu` and `rot` is at
the index its table (R51) lists it. -/
def formBytes : Form → List Byte
  | .ld8 d src => [BitVec.ofNat 8 (0x40 + 8 * d.index + src.index)]
  | .ld8n d n => [BitVec.ofNat 8 (0x06 + 8 * d.index), n]
  | .ldAInd rr => [BitVec.ofNat 8 (0x0A + 16 * pairIndex rr)]
  | .ldIndA rr => [BitVec.ofNat 8 (0x02 + 16 * pairIndex rr)]
  | .ldAAbs nn => [0xFA, loByte nn, hiByte nn]
  | .ldAbsA nn => [0xEA, loByte nn, hiByte nn]
  | .ldhAn n => [0xF0, n]
  | .ldhnA n => [0xE0, n]
  | .ldhAC => [0xF2]
  | .ldhCA => [0xE2]
  | .ldHLincA => [0x22]
  | .ldAHLinc => [0x2A]
  | .ldHLdecA => [0x32]
  | .ldAHLdec => [0x3A]
  | .ld16 rr nn => [BitVec.ofNat 8 (0x01 + 16 * pairIndex rr), loByte nn, hiByte nn]
  | .ldAbsSP nn => [0x08, loByte nn, hiByte nn]
  | .ldSPHL => [0xF9]
  | .ldHLSPe eb => [0xF8, eb]
  | .push rr => [BitVec.ofNat 8 (0xC5 + 16 * stackPairIndex rr)]
  | .pop rr => [BitVec.ofNat 8 (0xC1 + 16 * stackPairIndex rr)]
  | .alu op src => [BitVec.ofNat 8 (0x80 + 8 * op.ctorIdx + src.index)]
  | .aluN op n => [BitVec.ofNat 8 (0xC6 + 8 * op.ctorIdx), n]
  | .inc8 r => [BitVec.ofNat 8 (0x04 + 8 * r.index)]
  | .dec8 r => [BitVec.ofNat 8 (0x05 + 8 * r.index)]
  | .daa => [0x27]
  | .cpl => [0x2F]
  | .scf => [0x37]
  | .ccf => [0x3F]
  | .addHL rr => [BitVec.ofNat 8 (0x09 + 16 * pairIndex rr)]
  | .inc16 rr => [BitVec.ofNat 8 (0x03 + 16 * pairIndex rr)]
  | .dec16 rr => [BitVec.ofNat 8 (0x0B + 16 * pairIndex rr)]
  | .addSPe eb => [0xE8, eb]
  | .rlca => [0x07]
  | .rrca => [0x0F]
  | .rla => [0x17]
  | .rra => [0x1F]
  | .rot op r => [0xCB, BitVec.ofNat 8 (8 * op.ctorIdx + r.index)]
  | .bit b r => [0xCB, BitVec.ofNat 8 (0x40 + 8 * b.val + r.index)]
  | .res b r => [0xCB, BitVec.ofNat 8 (0x80 + 8 * b.val + r.index)]
  | .set b r => [0xCB, BitVec.ofNat 8 (0xC0 + 8 * b.val + r.index)]
  | .jp nn => [0xC3, loByte nn, hiByte nn]
  | .jpCond cc nn => [BitVec.ofNat 8 (0xC2 + 8 * condIndex cc), loByte nn, hiByte nn]
  | .jpHL => [0xE9]
  | .jr eb => [0x18, eb]
  | .jrCond cc eb => [BitVec.ofNat 8 (0x20 + 8 * condIndex cc), eb]
  | .call nn => [0xCD, loByte nn, hiByte nn]
  | .callCond cc nn => [BitVec.ofNat 8 (0xC4 + 8 * condIndex cc), loByte nn, hiByte nn]
  | .ret => [0xC9]
  | .retCond cc => [BitVec.ofNat 8 (0xC0 + 8 * condIndex cc)]
  | .reti => [0xD9]
  | .rst y => [BitVec.ofNat 8 (0xC7 + 8 * y.val)]
  | .nop => [0x00]
  | .halt => [0x76]
  | .stop => [0x10]
  | .di => [0xF3]
  | .ei => [0xFB]
  | .prefixed op2 => [0xCB, op2]
  | .illegal op => [op]

/-- An instruction's bytes are those of its form. -/
theorem encode_eq_formBytes (i : Instr) : encode i = formBytes i.form := by
  cases i <;> rfl

/-- The two bytes of an immediate address, low byte first, as the statements write them. -/
theorem immediateBytes_eq (nn : Word) : [loByte nn, hiByte nn] = [nn.setWidth 8, (nn >>> 8).setWidth 8] := by
  rw [loByte_eq_setWidth, hiByte_eq_shift]

theorem byOperand_eq (r : R8) (register memory : Nat) : byOperand r register memory = if r = .atHL then memory else register := by
  cases r <;> rfl

end Sys2Proof.Machine
end

section
/-! PROOFS. The 8-bit loads and stores: effect, bytes and cycles (40_load8.md R58-R76). -/

namespace Sys2Proof.Machine

/-! ### `LD` between slots and of an immediate byte (R58-R62) -/

theorem ld8_eq_ok {s t : State} {d src : R8} {v : Byte} (hv : Holds8 s src v) (ht : Written8 s d v t) : ld8 d src s = .ok t :=
  Res.bind_eq_ok.mpr ⟨v, holds8_iff.mp hv, written8_iff.mp ht⟩

/-- Settles O12: the operation of the form reads its source slot and writes its destination slot; encoding and cost are those of the
form. -/
theorem loadBetweenSlotsResult : Obligations.LoadBetweenSlotsResult := by
  intro s t i d src v
  rw [exec_eq_execForm, encode_eq_formBytes, cycles]
  constructor
  · intro hi hv ht
    rw [hi]
    have cost : byOperand d (byOperand src 4 8) 8 = if d = .atHL ∨ src = .atHL then 8 else 4 := by
      rw [byOperand_eq, byOperand_eq, ite_or]
    exact ⟨outcome_eq_next.mpr (ld8_eq_ok hv ht), rfl, cost⟩
  · intro hi ht
    rw [hi]
    exact ⟨outcome_eq_next.mpr (written8_iff.mp ht), rfl, byOperand_eq d 8 12⟩

/-! ### Loads and stores of `A` (R63-R72) -/

theorem highPage_eq (n : Byte) : highPage n = 0xFF00 + n.setWidth 16 := by
  apply BitVec.eq_of_toNat_eq
  rw [highPage, wordOf_toNat]
  bv_omega

/-- A load completes where the read of its address answers; only `A` changes. -/
theorem loadA_of_busGet {s : State} {a : Word} {v : Byte} (h : busGet s a = .ok v) :
    outcome (loadA a s) = .next { s with cpu := { s.cpu with a := v } } :=
  outcome_eq_next.mpr (Res.bind_eq_ok.mpr ⟨v, h, rfl⟩)

/-- A store completes where the write of `A` answers, and is that write. -/
theorem storeA_of_busSet {s t : State} {a : Word} (h : busSet s a s.cpu.a = .ok t) : outcome (storeA a s) = .next t :=
  outcome_eq_next.mpr h

/-- Settles O13: each of the five is `loadA` at its address. -/
theorem loadAccumulatorResult : Obligations.LoadAccumulatorResult := by
  intro s v n nn loaded
  rw [← highPage_eq, ← highPage_eq, ← immediateBytes_eq]
  refine ⟨?_, ?_, ?_, ?_, ?_⟩ <;> exact fun h => ⟨loadA_of_busGet h, rfl, rfl⟩

/-- Settles O14: each of the five is `storeA` at its address. -/
theorem storeAccumulatorResult : Obligations.StoreAccumulatorResult := by
  intro s t n nn
  rw [← highPage_eq, ← highPage_eq, ← immediateBytes_eq]
  refine ⟨?_, ?_, ?_, ?_, ?_⟩ <;> exact fun h => ⟨storeA_of_busSet h, rfl, rfl⟩

/-! ### Loads and stores that step `HL` (R73-R76) -/

/-- A load that steps `HL` completes where the read at the old `HL` answers. -/
theorem loadAStep_of_busGet {s : State} {v : Byte} (delta : Word) (h : busGet s s.hl = .ok v) :
    outcome (loadAStep delta s) = .next { s with cpu := { s.cpu with
      a := v, h := ((s.hl + delta) >>> 8).setWidth 8, l := (s.hl + delta).setWidth 8 } } := by
  rw [← hiByte_eq_shift, ← loByte_eq_setWidth]
  exact outcome_eq_next.mpr (Res.bind_eq_ok.mpr ⟨v, h, rfl⟩)

/-- A store that steps `HL` completes where the write at the old `HL` answers; the step, from the old `HL`, follows the write. -/
theorem storeAStep_of_busSet {s t : State} (delta : Word) (h : busSet s s.hl s.cpu.a = .ok t) :
    outcome (storeAStep delta s) = .next { t with cpu := { t.cpu with
      h := ((s.hl + delta) >>> 8).setWidth 8, l := (s.hl + delta).setWidth 8 } } := by
  rw [← hiByte_eq_shift, ← loByte_eq_setWidth]
  exact outcome_eq_next.mpr (Res.bind_eq_ok.mpr ⟨t, h, rfl⟩)

/-- Settles O15: each of the four is its access at the old `HL`, with a step of 1 or of -1, which is the subtraction of 1. -/
theorem loadStoreAndStepHLResult : Obligations.LoadStoreAndStepHLResult := by
  intro s t v hl
  rw [sub_eq_add_neg hl 1]
  exact ⟨fun h => ⟨storeAStep_of_busSet 1 h, storeAStep_of_busSet (-1) h⟩,
    fun h => ⟨loadAStep_of_busGet 1 h, loadAStep_of_busGet (-1) h⟩, rfl, rfl, rfl, rfl, rfl, rfl, rfl, rfl⟩

end Sys2Proof.Machine
end

section
/-! PROOFS. The 16-bit loads and the stack: effect, bytes and cycles (41_load16_stack.md R77-R84; 43_alu16.md R103). -/

namespace Sys2Proof.Machine

/-! ### Accesses of a word (20_memory.md R23) -/

theorem busGet16_of_bytes {s : State} {a : Word} {lo hi : Byte} (hlo : busGet s a = .ok lo) (hhi : busGet s (a + 1) = .ok hi) :
    busGet16 s a = .ok (wordOf hi lo) :=
  Res.bind_eq_ok.mpr ⟨lo, hlo, Res.bind_eq_ok.mpr ⟨hi, hhi, rfl⟩⟩

/-- A store of a word is the stores of its two bytes, as the statements write them. -/
theorem busSet16_of_bytes {s t u : State} {a v : Word} (hlo : busSet s a (v.setWidth 8) = .ok t)
    (hhi : busSet t (a + 1) ((v >>> 8).setWidth 8) = .ok u) : busSet16 s a v = .ok u := by
  rw [← loByte_eq_setWidth] at hlo
  rw [← hiByte_eq_shift] at hhi
  exact Res.bind_eq_ok.mpr ⟨t, hlo, hhi⟩

/-- The address of the high byte of a push, next to that of the low byte. -/
theorem sub_two_add_one (a : Word) : a - 2 + 1 = a - 1 := by ring

/-! ### Loads of a pair, of `SP` and of its bytes (R77-R79) -/

/-- Settles O16: a pair takes the two bytes of its immediate, and the store of `SP` is a store of a word. -/
theorem sixteenBitLoadResult : Obligations.SixteenBitLoadResult := by
  intro s t u i rr nn
  refine ⟨fun hi => ?_, fun hlo hhi => ?_, rfl, rfl, rfl⟩
  · have hload : ld16 rr nn s = .ok (withPair s (hiByte nn) (loByte nn) rr) := by
      rw [withPair_eq]; exact congrArg (Except.ok <| writeR16 s rr ·) (wordOf_hi_lo nn).symm
    rw [exec_eq_execForm, encode_eq_formBytes, cycles, hi, ← hiByte_eq_shift, ← loByte_eq_setWidth]
    exact ⟨outcome_eq_next.mpr hload, rfl, rfl⟩
  · rw [← immediateBytes_eq]
    exact ⟨outcome_eq_next.mpr (busSet16_of_bytes hlo hhi), rfl, rfl⟩

/-! ### `SP` plus a displacement (R80, R103) -/

/-- The sign extension of a displacement byte, by the sign of the byte. -/
theorem sext16_eq (eb : Byte) : sext16 eb = if eb.toNat < 128 then eb.setWidth 16 else eb.setWidth 16 + 0xFF00 := by
  revert eb; decide

/-- The flags of the sum with their operands masked, as the statement writes them. -/
theorem spPlusE_eq (sp : Word) (eb : Byte) : spPlusE sp eb =
    (sp + (if eb.toNat < 128 then eb.setWidth 16 else eb.setWidth 16 + 0xFF00),
      packFlags false false (decide ((sp &&& 0x0F).toNat + (eb &&& 0x0F).toNat > 0x0F))
        (decide ((sp &&& 0xFF).toNat + eb.toNat > 0xFF))) := by
  have nibbleSp : (sp &&& 0x0F).toNat = sp.toNat % 0x10 := Nat.and_two_pow_sub_one_eq_mod sp.toNat 4
  have nibbleE : (eb &&& 0x0F).toNat = eb.toNat % 0x10 := Nat.and_two_pow_sub_one_eq_mod eb.toNat 4
  have byteSp : (sp &&& 0xFF).toNat = sp.toNat % 0x100 := Nat.and_two_pow_sub_one_eq_mod sp.toNat 8
  rw [spPlusE, sext16_eq, nibbleSp, nibbleE, byteSp]

/-- Settles O17: both instructions write the two parts of `spPlusE`; the mask of `F` leaves packed flags as they are. -/
theorem stackPointerPlusDisplacementResult : Obligations.StackPointerPlusDisplacementResult := by
  intro s eb r f
  have hsum : spPlusE s.cpu.sp eb = (r, f) := spPlusE_eq s.cpu.sp eb
  have hload : ldHLSPe eb s = .ok { s with cpu := { s.cpu with h := hiByte r, l := loByte r, f := f } } := by
    rw [ldHLSPe, hsum, State.setF, maskF_packFlags]; rfl
  have hadd : addSPe eb s = .ok { s with cpu := { s.cpu with sp := r, f := f } } := by
    rw [addSPe, hsum, State.setF, maskF_packFlags]; rfl
  rw [← hiByte_eq_shift, ← loByte_eq_setWidth]
  exact ⟨⟨outcome_eq_next.mpr hload, rfl, rfl⟩, outcome_eq_next.mpr hadd, rfl, rfl⟩

/-! ### The stack (R81-R84) -/

/-- Settles O18: a push is a store of the pair's word below `SP`. -/
theorem pushResult : Obligations.PushResult := by
  intro s t u i rr hi v hlo hhi
  rw [exec_eq_execForm, encode_eq_formBytes, cycles, hi]
  rw [← sub_two_add_one] at hhi
  have hpush : pushPair rr s = .ok u := by
    rw [pushPair, ← stackPairValue_eq]; exact busSet16_of_bytes hlo hhi
  refine ⟨outcome_eq_next.mpr hpush, rfl, rfl, fun hrr hf => ?_⟩
  have hlow : v.setWidth 8 = s.cpu.f := by
    rw [← loByte_eq_setWidth]; subst hrr; exact loByte_append s.cpu.a s.cpu.f
  rw [hlow, hf]

theorem popPair_of_busGet16 {s : State} {v : Word} (rr : R16S) (h : busGet16 s s.cpu.sp = .ok v) :
    popPair rr s = .ok (writeR16S (s.setSP (s.cpu.sp + 2)) rr v) :=
  Res.bind_eq_ok.mpr ⟨(v, s.setSP (s.cpu.sp + 2)), pop16_eq_ok.mpr ⟨h, rfl⟩, rfl⟩

/-- Settles O19: a pop loads the word at `SP` into the pair. -/
theorem popResult : Obligations.PopResult := by
  intro s i rr lo hi hform hlo hhi
  rw [exec_eq_execForm, encode_eq_formBytes, cycles, hform, withStackPair_eq]
  exact ⟨outcome_eq_next.mpr (popPair_of_busGet16 rr (busGet16_of_bytes hlo hhi)), rfl, rfl⟩

/-! ### The round trip of the stack (R82) -/

/-- Two consecutive addresses of plain RAM are two cells: the mirror of an address is not next to it. -/
theorem unmirror_next_ne {a : Word} (ha : plainRam a) : (unmirror a).toNat ≠ (unmirror (a + 1)).toNat := by
  have hlt : a.toNat < 0xFFFF := by omega
  have hnext : (a + 1).toNat = a.toNat + 1 := by bv_omega
  rw [unmirror_toNat, unmirror_toNat]
  split <;> split <;> omega

/-- `s` with a word stored in two cells of plain RAM. -/
def pokeWord (s : State) (a v : Word) : State :=
  (s.poke (unmirror a).toNat (loByte v)).poke (unmirror (a + 1)).toNat (hiByte v)

theorem pokeWord_cpu (s : State) (a v : Word) : (pokeWord s a v).cpu = s.cpu := rfl

theorem busSet16_plainRam (s : State) {a : Word} (v : Word) (hlo : plainRam a) (hhi : plainRam (a + 1)) :
    busSet16 s a v = .ok (pokeWord s a v) :=
  Res.bind_eq_ok.mpr ⟨_, busSet_plainRam s hlo _, busSet_plainRam _ hhi _⟩

theorem busGet16_pokeWord {s : State} (hw : Memory.wf s.mem = true) {a : Word} (v : Word) (hlo : plainRam a) (hhi : plainRam (a + 1)) :
    busGet16 (pokeWord s a v) a = .ok v := by
  have lo : (pokeWord s a v).peek (unmirror a).toNat = loByte v := by
    rw [pokeWord, State.peek_poke (State.poke_wf hw _ _), if_neg (unmirror_next_ne hlo), State.peek_poke hw, if_pos rfl]
  have hi : (pokeWord s a v).peek (unmirror (a + 1)).toNat = hiByte v := by
    rw [pokeWord, State.peek_poke (State.poke_wf hw _ _), if_pos rfl]
  rw [busGet16_of_bytes (busGet_plainRam _ hlo) (busGet_plainRam _ hhi), lo, hi, wordOf_hi_lo]

/-- A pair written with its own value, where `F` has the form its mask leaves alone, changes nothing. -/
theorem writeR16S_readR16S {s u : State} (rr : R16S) (hcpu : u.cpu = s.cpu) (hf : s.cpu.f &&& 0x0F = 0) :
    writeR16S u rr (readR16S s rr) = u := by
  have hmask : maskF u.cpu.f = u.cpu.f := maskF_eq_self (hcpu ▸ hf)
  cases rr <;>
    simp [writeR16S, readR16S, State.setBC, State.setDE, State.setHL, State.setAF, State.bc, State.de, State.hl, State.af,
      ← hcpu, hmask]

/-- A pop restores the CPU of `s` where `SP` alone has moved, down by 2, and the word there is the pair's value in `s`. -/
theorem popPair_restores {s t : State} (rr : R16S) (hf : s.cpu.f &&& 0x0F = 0) (hcpu : t.cpu = { s.cpu with sp := s.cpu.sp - 2 })
    (hread : busGet16 t t.cpu.sp = .ok (readR16S s rr)) : popPair rr t = .ok { t with cpu := s.cpu } := by
  have hsp : t.setSP (t.cpu.sp + 2) = { t with cpu := s.cpu } := by rw [State.setSP, hcpu, sub_add_cancel]
  rw [popPair_of_busGet16 rr hread, hsp]
  exact congrArg Except.ok (writeR16S_readR16S rr rfl hf)

/-- Settles O20: the pop reads the word the push stored, into registers that still hold it. -/
theorem pushThenPopRestores : Obligations.PushThenPopRestores := by
  intro s i j rr hi hj hw hf hlo hhi
  rw [← sub_two_add_one] at hhi
  rw [exec_eq_execForm, hi]
  refine ⟨pokeWord (s.setSP (s.cpu.sp - 2)) (s.cpu.sp - 2) (readR16S s rr), ?_, ?_, pokeWord_cpu _ _ _⟩
  · exact outcome_eq_next.mpr (busSet16_plainRam _ _ hlo hhi)
  · rw [exec_eq_execForm, hj]
    exact outcome_eq_next.mpr (popPair_restores rr hf (pokeWord_cpu _ _ _) (busGet16_pokeWord hw _ hlo hhi))

end Sys2Proof.Machine
end

section
/-! PROOFS. The 8-bit arithmetic and logic: effect, bytes and cycles (42_alu8.md R85-R99). -/

namespace Sys2Proof.Machine

/-! ### Zero, and the low nibble, of a result as the statements write them -/

theorem ofNat_beq_zero (n : Nat) : (BitVec.ofNat 8 n == 0) = decide (n % 256 = 0) :=
  decide_eq_decide.mpr (by rw [← BitVec.toNat_inj, BitVec.toNat_ofNat]; rfl)

theorem ofInt_beq_zero (z : Int) : (BitVec.ofInt 8 z == 0) = decide (z % 256 = 0) :=
  decide_eq_decide.mpr (by
    rw [← BitVec.toNat_inj, BitVec.toNat_ofInt]
    change (z % 256).toNat = 0 ↔ z % 256 = 0
    omega)

theorem lowNibble_toNat (v : Byte) : (v &&& 0x0F).toNat = v.toNat % 16 := Nat.and_two_pow_sub_one_eq_mod v.toNat 4

/-- Packed flags go to `F` as they are. -/
theorem setF_packFlags (s : State) (z n h c : Bool) :
    s.setF (packFlags z n h c) = { s with cpu := { s.cpu with f := packFlags z n h c } } := by
  rw [State.setF, maskF_packFlags]

/-! ### Every operation of the accumulator (R85) -/

/-- Every operation packs the flags it writes, so the mask of `F` changes nothing. -/
theorem maskF_aluResult (op : AluOp) (a v f : Byte) : maskF (aluResult op a v f).2 = (aluResult op a v f).2 := by
  cases op <;> exact maskF_packFlags _ _ _ _

theorem aluA_eq (op : AluOp) (v : Byte) (s : State) : aluA op v s = { s with cpu := { s.cpu with
    a := (aluResult op s.cpu.a v s.cpu.f).1, f := (aluResult op s.cpu.a v s.cpu.f).2 } } := by
  rw [aluA, State.setF, maskF_aluResult]; rfl

/-- In each of the three forms, the operation's result goes to `A` and `F` and nothing else changes; bytes and cost are those of the
form. -/
theorem alu_of_operand {i : Instr} {op : AluOp} {s : State} {v : Byte} {r : Byte × Byte} (h : AluOperand i op s v)
    (hr : aluResult op s.cpu.a v s.cpu.f = r) :
    exec i s = .next { s with cpu := { s.cpu with a := r.1, f := r.2 } } ∧ encode i = aluBytes op.ctorIdx i.form ∧
      cycles i s = aluCycles i.form := by
  subst hr
  rw [exec_eq_execForm, encode_eq_formBytes, cycles, ← aluA_eq]
  obtain ⟨src, hi, hv⟩ | hi := h
  · rw [hi]
    have hop : aluR8 op src s = .ok (aluA op v s) := Res.bind_eq_ok.mpr ⟨v, holds8_iff.mp hv, rfl⟩
    have cost : byOperand src 4 8 = aluCycles (.alu op src) := by cases src <;> rfl
    exact ⟨outcome_eq_next.mpr hop, rfl, cost⟩
  · rw [hi]
    exact ⟨rfl, rfl, rfl⟩

/-! ### Addition, subtraction and comparison (R86-R89, R93) -/

theorem add8_eq (a v : Byte) (c : Bool) : add8 a v c =
    (BitVec.ofNat 8 (a.toNat + v.toNat + c.toNat), packFlags (decide ((a.toNat + v.toNat + c.toNat) % 256 = 0)) false
      (decide (a.toNat % 16 + v.toNat % 16 + c.toNat > 0x0F)) (decide (a.toNat + v.toNat + c.toNat > 0xFF))) := by
  rw [add8, ofNat_beq_zero]

theorem sub8_eq (a v : Byte) (c : Bool) : sub8 a v c =
    (BitVec.ofInt 8 ((a.toNat : Int) - v.toNat - c.toNat), packFlags (decide (((a.toNat : Int) - v.toNat - c.toNat) % 256 = 0)) true
      (decide (a.toNat % 16 < v.toNat % 16 + c.toNat)) (decide (a.toNat < v.toNat + c.toNat))) := by
  rw [sub8, ofInt_beq_zero]

/-- Without a borrow-in, as the statement writes it for `SUB` and `CP`. -/
theorem sub8_false_eq (a v : Byte) : sub8 a v false =
    (BitVec.ofInt 8 ((a.toNat : Int) - v.toNat), packFlags (decide (((a.toNat : Int) - v.toNat) % 256 = 0)) true
      (decide (a.toNat % 16 < v.toNat % 16)) (decide (a.toNat < v.toNat))) := by
  have noBorrow : (a.toNat : Int) - v.toNat - (false.toNat : Nat) = (a.toNat : Int) - v.toNat := sub_zero _
  rw [sub8_eq, noBorrow]; rfl

/-- Settles O21: both operations are `add8`, `ADD` with no carry-in and `ADC` with the carry flag. -/
theorem addResult : Obligations.AddResult := by
  intro s i v a c
  exact ⟨fun h => alu_of_operand h (add8_eq s.cpu.a v false), fun h => alu_of_operand h (add8_eq s.cpu.a v (flagC s.cpu.f))⟩

/-- Settles O22: the operations are `sub8`, `SBC` with the carry flag as borrow-in; `CP` keeps its flags only. -/
theorem subtractAndCompareResult : Obligations.SubtractAndCompareResult := by
  intro s i v a c diff subFlags
  have hsub : sub8 s.cpu.a v false = (BitVec.ofInt 8 diff, subFlags) := sub8_false_eq s.cpu.a v
  have hcp : aluResult .cp s.cpu.a v s.cpu.f = (s.cpu.a, subFlags) := by rw [aluResult, hsub]
  exact ⟨fun h => alu_of_operand h hsub, fun h => alu_of_operand h (sub8_eq s.cpu.a v (flagC s.cpu.f)),
    fun h => alu_of_operand h hcp⟩

/-! ### The logic operations (R90-R92) -/

/-- Settles O23: a byte with the given bits is the operation's result. -/
theorem logicResult : Obligations.LogicResult := by
  intro s i v r
  refine ⟨fun h hbits => ?_, fun h hbits => ?_, fun h hbits => ?_⟩
  · obtain rfl : r = s.cpu.a &&& v := BitVec.eq_of_getLsbD_eq fun k hk => (hbits k hk).trans (BitVec.getLsbD_and ..).symm
    exact alu_of_operand h rfl
  · obtain rfl : r = s.cpu.a ^^^ v := BitVec.eq_of_getLsbD_eq fun k hk => (hbits k hk).trans (BitVec.getLsbD_xor ..).symm
    exact alu_of_operand h rfl
  · obtain rfl : r = s.cpu.a ||| v := BitVec.eq_of_getLsbD_eq fun k hk => (hbits k hk).trans (BitVec.getLsbD_or ..).symm
    exact alu_of_operand h rfl

/-! ### `INC` and `DEC` of a slot (R94, R95) -/

theorem inc8Result_eq (v f : Byte) : inc8Result v f = (BitVec.ofNat 8 (v.toNat + 1),
    packFlags (decide ((v.toNat + 1) % 256 = 0)) false (decide ((v &&& 0x0F).toNat = 0x0F)) (f.getLsbD 4)) := by
  have hres : v + 1 = BitVec.ofNat 8 (v.toNat + 1) := by bv_omega
  rw [inc8Result, hres, ofNat_beq_zero, lowNibble_toNat]; rfl

theorem dec8Result_eq (v f : Byte) : dec8Result v f = (BitVec.ofNat 8 (v.toNat + 255),
    packFlags (decide (v.toNat = 1)) true (decide ((v &&& 0x0F).toNat = 0x00)) (f.getLsbD 4)) := by
  have hres : v - 1 = BitVec.ofNat 8 (v.toNat + 255) := by bv_omega
  have hzero : (v.toNat + 255) % 256 = 0 ↔ v.toNat = 1 := by omega
  rw [dec8Result, hres, ofNat_beq_zero, decide_eq_decide.mpr hzero, lowNibble_toNat]; rfl

/-- Where a slot is read and then written with packed flags before it, the write is made in the state with the new flags. -/
theorem stepR8_eq_ok {s t : State} {r : R8} {v x : Byte} {z n h c : Bool} (step : Byte → Byte × Byte) (hv : Holds8 s r v)
    (hstep : step v = (x, packFlags z n h c)) (ht : Written8 { s with cpu := { s.cpu with f := packFlags z n h c } } r x t) :
    (readR8 s r >>= fun v => writeR8 (s.setF (step v).2) r (step v).1) = .ok t :=
  Res.bind_eq_ok.mpr ⟨v, holds8_iff.mp hv, by rw [hstep, setF_packFlags]; exact written8_iff.mp ht⟩

/-- Settles O24: the operation of the form reads the slot and writes it with the result and the flags of the value read. -/
theorem incrementDecrementResult : Obligations.IncrementDecrementResult := by
  intro s t i r v hv
  rw [exec_eq_execForm, encode_eq_formBytes, cycles]
  constructor
  · intro hi ht
    have hop : incR8 r s = .ok t := stepR8_eq_ok (inc8Result · s.cpu.f) hv (inc8Result_eq v s.cpu.f) ht
    rw [hi]
    exact ⟨outcome_eq_next.mpr hop, rfl, byOperand_eq r 4 12⟩
  · intro hi ht
    have hop : decR8 r s = .ok t := stepR8_eq_ok (dec8Result · s.cpu.f) hv (dec8Result_eq v s.cpu.f) ht
    rw [hi]
    exact ⟨outcome_eq_next.mpr hop, rfl, byOperand_eq r 4 12⟩

/-! ### `DAA` (R96) -/

/-- The correction of the low digit. -/
def daaLow (a f : Byte) : Nat := if flagH f = true ∨ (flagN f = false ∧ a.toNat % 16 > 0x09) then 0x06 else 0

/-- The correction of the high digit. -/
def daaHigh (a f : Byte) : Nat := if flagC f = true ∨ (flagN f = false ∧ a.toNat > 0x99) then 0x60 else 0

/-- The adjustment is the sum of the two corrections; the carry says that the high digit was corrected. -/
theorem daaAdjust_eq (a f : Byte) : daaAdjust a f = (daaLow a f + daaHigh a f, decide (daaHigh a f = 0x60)) := by
  unfold daaAdjust daaLow daaHigh
  cases flagN f
  · by_cases hC : flagC f = true ∨ a.toNat > 0x99 <;> simp [hC]
  · cases flagC f <;> simp

/-- The result of `DAA` before it is narrowed. -/
def daaSum (a f : Byte) : Nat :=
  if flagN f then a.toNat + 256 - (daaLow a f + daaHigh a f) else a.toNat + (daaLow a f + daaHigh a f)

theorem daa_corrections_le (a f : Byte) : daaLow a f + daaHigh a f ≤ 0x66 := by
  unfold daaLow daaHigh; split <;> split <;> decide

theorem daaResult_eq (a f : Byte) : daaResult a f =
    (BitVec.ofNat 8 (daaSum a f), packFlags (decide (daaSum a f % 256 = 0)) (flagN f) false (decide (daaHigh a f = 0x60))) := by
  have hle := daa_corrections_le a f
  have hres : (if flagN f then a - BitVec.ofNat 8 (daaLow a f + daaHigh a f) else a + BitVec.ofNat 8 (daaLow a f + daaHigh a f)) =
      BitVec.ofNat 8 (daaSum a f) := by
    unfold daaSum; split <;> bv_omega
  rw [daaResult, daaAdjust_eq, hres, ofNat_beq_zero]

theorem exec_daa (s : State) : exec .daa s = .next { s with cpu := { s.cpu with
    a := BitVec.ofNat 8 (daaSum s.cpu.a s.cpu.f)
    f := packFlags (decide (daaSum s.cpu.a s.cpu.f % 256 = 0)) (flagN s.cpu.f) false (decide (daaHigh s.cpu.a s.cpu.f = 0x60)) } } := by
  have hop : exec .daa s = outcome (daaA s) := exec_eq_execForm .daa s
  rw [hop, daaA, daaResult_eq, setF_packFlags]; rfl

/-- Settles O25: the corrections and their sum are those of the statement. -/
theorem decimalAdjustResult : Obligations.DecimalAdjustResult := fun s => ⟨exec_daa s, rfl, rfl⟩

/-! ### `ADD` and then `DAA` on two BCD bytes (R96) -/

/-- The value of the byte that holds a number below 100 in BCD. -/
def bcd (n : Nat) : Nat := 16 * (n / 10) + n % 10

theorem bcd_lt {n : Nat} (h : n < 100) : bcd n < 256 := by unfold bcd; omega

/-- After the binary sum of two BCD bytes, the low digit is corrected exactly where the sum of the low digits has two digits. -/
theorem daaLow_bcd_sum (x y : Nat) (z c : Bool) :
    daaLow (BitVec.ofNat 8 (bcd x + bcd y)) (packFlags z false (decide (bcd x % 16 + bcd y % 16 > 0x0F)) c) =
      if 10 ≤ x % 10 + y % 10 then 0x06 else 0 := by
  rw [daaLow, flagH_packFlags, flagN_packFlags, BitVec.toNat_ofNat]
  refine if_congr ?_ rfl rfl
  rw [decide_eq_true_eq, eq_self, true_and, bcd, bcd]
  omega

theorem bcd_sum_gt_iff (x y : Nat) : bcd x + bcd y > 0x99 ↔ 100 ≤ x + y := by
  have tens := Nat.lt_or_ge (x / 10 + y / 10) 10
  unfold bcd
  omega

section
variable {x y : Nat} (hx : x < 100) (hy : y < 100)
include hx hy

/-- The high digit is corrected exactly where the sum of the numbers has three digits. -/
theorem daaHigh_bcd_sum (z h : Bool) :
    daaHigh (BitVec.ofNat 8 (bcd x + bcd y)) (packFlags z false h (decide (bcd x + bcd y > 0xFF))) =
      if 100 ≤ x + y then 0x60 else 0 := by
  rw [daaHigh, flagC_packFlags, flagN_packFlags, BitVec.toNat_ofNat]
  refine if_congr ?_ rfl rfl
  rw [decide_eq_true_eq, eq_self, true_and, ← bcd_sum_gt_iff x y]
  have hx' := bcd_lt hx
  have hy' := bcd_lt hy
  omega

/-- With the two corrections, the binary sum becomes the BCD of the sum mod 100. -/
theorem daaSum_bcd_sum (z : Bool) :
    BitVec.ofNat 8 (daaSum (BitVec.ofNat 8 (bcd x + bcd y))
      (packFlags z false (decide (bcd x % 16 + bcd y % 16 > 0x0F)) (decide (bcd x + bcd y > 0xFF)))) =
      BitVec.ofNat 8 (16 * ((x + y) % 100 / 10) + (x + y) % 10) := by
  apply BitVec.eq_of_toNat_eq
  rw [daaSum, flagN_packFlags, if_neg Bool.false_ne_true, daaLow_bcd_sum, daaHigh_bcd_sum hx hy]
  simp only [BitVec.toNat_ofNat, bcd]
  split <;> split <;> omega

end

/-- Settles O26: the two instructions are those of O21 and O25. -/
theorem addThenDecimalAdjustIsBcdAddition : Obligations.AddThenDecimalAdjustIsBcdAddition := by
  intro s x y hx hy ha hb
  obtain ⟨hadd, -, -⟩ := (addResult s .add_A_B s.cpu.b).1 (.inl ⟨.B, rfl, rfl⟩)
  have ha' : s.cpu.a.toNat = bcd x := by rw [ha]; exact Nat.mod_eq_of_lt (bcd_lt hx)
  have hb' : s.cpu.b.toNat = bcd y := by rw [hb]; exact Nat.mod_eq_of_lt (bcd_lt hy)
  rw [ha', hb'] at hadd
  have hcarry : (if 100 ≤ x + y then 0x60 else 0) = 0x60 ↔ 100 ≤ x + y := by split <;> simp [*]
  refine ⟨_, _, hadd, exec_daa _, daaSum_bcd_sum hx hy _, ?_⟩
  rw [← flagC, flagC_packFlags, daaHigh_bcd_sum hx hy, decide_eq_true_eq, hcarry]

/-! ### `CPL`, `SCF`, `CCF` (R97-R99) -/

/-- Settles O27: the three operations write packed flags, which the mask of `F` leaves as they are; the exclusive or with ones is the
complement. -/
theorem complementAndCarryResult : Obligations.ComplementAndCarryResult := by
  intro s f
  have hcpl : cplA s = .ok { s with cpu := { s.cpu with a := ~~~s.cpu.a, f := cplFlags f } } := by
    rw [cplA, ← BitVec.xor_allOnes, cplFlags, setF_packFlags]; rfl
  have hscf : scfOp s = .ok { s with cpu := { s.cpu with f := scfFlags f } } := by
    rw [scfOp, scfFlags, setF_packFlags]
  have hccf : ccfOp s = .ok { s with cpu := { s.cpu with f := ccfFlags f } } := by
    rw [ccfOp, ccfFlags, setF_packFlags]
  exact ⟨⟨outcome_eq_next.mpr hcpl, rfl, rfl⟩, ⟨outcome_eq_next.mpr hscf, rfl, rfl⟩, outcome_eq_next.mpr hccf, rfl, rfl⟩

end Sys2Proof.Machine
end

section
/-! PROOFS. The 16-bit arithmetic: effect, bytes and cycles (43_alu16.md R100-R102). -/

namespace Sys2Proof.Machine

/-! ### The two bytes of a word narrowed from a number, as the statement writes them -/

theorem loByte_ofNat (n : Nat) : loByte (BitVec.ofNat 16 n) = BitVec.ofNat 8 n := by
  rw [loByte_eq_setWidth]
  exact BitVec.setWidth_ofNat_of_le (by decide) n

theorem hiByte_ofNat (n : Nat) : hiByte (BitVec.ofNat 16 n) = BitVec.ofNat 8 (n / 256) := by
  rw [hiByte_eq_shift]
  bv_omega

theorem writeR16_ofNat (s : State) (rr : R16) (n : Nat) :
    writeR16 s rr (BitVec.ofNat 16 n) = withPair s (BitVec.ofNat 8 (n / 256)) (BitVec.ofNat 8 n) rr := by
  rw [withPair_eq, ← hiByte_ofNat, ← loByte_ofNat]
  exact congrArg (writeR16 s rr) (wordOf_hi_lo _).symm

/-! ### The three operations -/

/-- `HL` takes the two bytes of the sum; the flags are packed, so the mask of `F` changes nothing (R100). -/
theorem addHL_eq (rr : R16) (s : State) :
    let hl := s.hl.toNat
    let v := (pairValue s rr).toNat
    addHL rr s = .ok { s with cpu := { s.cpu with
      h := BitVec.ofNat 8 ((hl + v) / 256)
      l := BitVec.ofNat 8 (hl + v)
      f := packFlags (flagZ s.cpu.f) false (decide (hl % 0x1000 + v % 0x1000 > 0x0FFF)) (decide (hl + v > 0xFFFF)) } } := by
  intro hl v
  have hsum : s.hl + pairValue s rr = BitVec.ofNat 16 (hl + v) := by bv_omega
  rw [addHL, ← pairValue_eq, addHLResult, hsum, setF_packFlags, State.setHL, hiByte_ofNat, loByte_ofNat]

theorem incR16_eq (rr : R16) (s : State) :
    incR16 rr s = .ok (withPair s (BitVec.ofNat 8 (((pairValue s rr).toNat + 1) / 256))
      (BitVec.ofNat 8 ((pairValue s rr).toNat + 1)) rr) := by
  have hup : pairValue s rr + 1 = BitVec.ofNat 16 ((pairValue s rr).toNat + 1) := by bv_omega
  rw [incR16, ← pairValue_eq, hup, writeR16_ofNat]

/-- One down is 0xFFFF up, mod 65536 (R102). -/
theorem decR16_eq (rr : R16) (s : State) :
    decR16 rr s = .ok (withPair s (BitVec.ofNat 8 (((pairValue s rr).toNat + 0xFFFF) / 256))
      (BitVec.ofNat 8 ((pairValue s rr).toNat + 0xFFFF)) rr) := by
  have hdown : pairValue s rr - 1 = BitVec.ofNat 16 ((pairValue s rr).toNat + 0xFFFF) := by bv_omega
  rw [decR16, ← pairValue_eq, hdown, writeR16_ofNat]

/-- Settles O28: each form is one of the three operations; bytes and cost are those of the form. -/
theorem sixteenBitArithmeticResult : Obligations.SixteenBitArithmeticResult := by
  intro s i rr
  rw [exec_eq_execForm, encode_eq_formBytes, cycles]
  refine ⟨fun hi => ?_, fun hi => ?_, fun hi => ?_⟩ <;> rw [hi]
  · exact ⟨outcome_eq_next.mpr (addHL_eq rr s), rfl, rfl⟩
  · exact ⟨outcome_eq_next.mpr (incR16_eq rr s), rfl, rfl⟩
  · exact ⟨outcome_eq_next.mpr (decR16_eq rr s), rfl, rfl⟩

end Sys2Proof.Machine
end

section
/-! PROOFS. The rotates, shifts, `SWAP` and the bit operations: effect, bytes and cycles (44_rotate_shift_bit.md R104-R119). -/

namespace Sys2Proof.Machine

/-! ### A byte moved by one place, bit by bit as the statements write it -/

/-- `x` is `v` moved one place up, with `b` in the free place. -/
def MovedUp (v x : Byte) (b : Bool) : Prop := x.getLsbD 0 = b ∧ ∀ k < 7, x.getLsbD (k + 1) = v.getLsbD k

/-- `x` is `v` moved one place down, with `b` in the free place. -/
def MovedDown (v x : Byte) (b : Bool) : Prop := x.getLsbD 7 = b ∧ ∀ k < 7, x.getLsbD k = v.getLsbD (k + 1)

/-- `x` is `v` with its nibbles exchanged. -/
def Swapped (v x : Byte) : Prop := ∀ k < 4, x.getLsbD k = v.getLsbD (k + 4) ∧ x.getLsbD (k + 4) = v.getLsbD k

section
variable {v x : Byte} {b : Bool}

theorem MovedUp.eq_shiftLeft_or (h : MovedUp v x b) : x = (v <<< 1) ||| (BitVec.ofBool b).setWidth 8 := by
  obtain ⟨hfree, hmoved⟩ := h
  refine BitVec.eq_of_getLsbD_eq fun k hk => ?_
  cases k with
  | zero => rw [hfree]; simp
  | succ k =>
    have hk8 : k < 8 := by omega
    rw [hmoved k (by omega)]; simp [hk, BitVec.getLsbD_eq_getElem hk8]

theorem MovedDown.eq_shiftRight_or (h : MovedDown v x b) : x = (v >>> 1) ||| ((BitVec.ofBool b).setWidth 8 <<< 7) := by
  obtain ⟨hfree, hmoved⟩ := h
  refine BitVec.eq_of_getLsbD_eq fun k hk => ?_
  by_cases h7 : k = 7
  · rw [h7, hfree]; simp
  · have hk7 : k < 7 := by omega
    rw [hmoved k hk7]; simp [hk7, Nat.add_comm]

theorem Swapped.eq_shift_or_shift (h : Swapped v x) : x = (v <<< 4) ||| (v >>> 4) := by
  refine BitVec.eq_of_getLsbD_eq fun k hk => ?_
  rcases Nat.lt_or_ge k 4 with hk4 | hk4
  · rw [(h k hk4).1]; simp [hk4, Nat.add_comm]
  · obtain ⟨j, rfl⟩ := Nat.exists_eq_add_of_le' hk4
    have hj8 : j < 8 := by omega
    rw [(h j (by omega)).2]; simp [hk, BitVec.getLsbD_eq_getElem hj8, BitVec.getLsbD_of_ge v (4 + (j + 4)) (by omega)]

/-! ### The results of the operations of `rot`, by the bits -/

theorem rotResult_rlc (c : Bool) (h : MovedUp v x (v.getLsbD 7)) : rotResult .rlc v c = (x, v.getLsbD 7) := by
  rw [h.eq_shiftLeft_or, rotResult]

theorem rotResult_rl {c : Bool} (h : MovedUp v x c) : rotResult .rl v c = (x, v.getLsbD 7) := by
  rw [h.eq_shiftLeft_or, rotResult]

theorem rotResult_sla (c : Bool) (h : MovedUp v x false) : rotResult .sla v c = (x, v.getLsbD 7) := by
  have hfree : (v <<< 1) ||| (BitVec.ofBool false).setWidth 8 = v <<< 1 := BitVec.or_zero
  rw [h.eq_shiftLeft_or, hfree, rotResult]

theorem rotResult_rrc (c : Bool) (h : MovedDown v x (v.getLsbD 0)) : rotResult .rrc v c = (x, v.getLsbD 0) := by
  rw [h.eq_shiftRight_or, rotResult]

theorem rotResult_rr {c : Bool} (h : MovedDown v x c) : rotResult .rr v c = (x, v.getLsbD 0) := by
  rw [h.eq_shiftRight_or, rotResult]

theorem rotResult_srl (c : Bool) (h : MovedDown v x false) : rotResult .srl v c = (x, v.getLsbD 0) := by
  have hfree : (v >>> 1) ||| ((BitVec.ofBool false).setWidth 8 <<< 7) = v >>> 1 := BitVec.or_zero
  rw [h.eq_shiftRight_or, hfree, rotResult]

theorem and_signBit_eq : ∀ v : Byte, v &&& (0x80 : Byte) = (BitVec.ofBool (v.getLsbD 7)).setWidth 8 <<< 7 := by decide

theorem rotResult_sra (c : Bool) (h : MovedDown v x (v.getLsbD 7)) : rotResult .sra v c = (x, v.getLsbD 0) := by
  rw [h.eq_shiftRight_or, rotResult, and_signBit_eq]

theorem rotResult_swap (c : Bool) (h : Swapped v x) : rotResult .swap v c = (x, false) := by
  rw [h.eq_shift_or_shift, rotResult]

end

/-! ### The accumulator rotates (R104-R107) -/

theorem rotA_eq {op : RotOp} {s : State} {x : Byte} {carry : Bool} (h : rotResult op s.cpu.a (flagC s.cpu.f) = (x, carry)) :
    rotA op s = .ok { s with cpu := { s.cpu with a := x, f := packFlags false false false carry } } := by
  rw [rotA, h, setF_packFlags]; rfl

/-- Settles O29: each of the four is `rotA` of an operation whose result has the given bits. -/
theorem accumulatorRotateResult : Obligations.AccumulatorRotateResult := by
  intro s r a c left right after
  have rotated : ∀ {op : RotOp} {carry : Bool}, rotResult op a c = (r, carry) → outcome (rotA op s) = after carry :=
    fun h => outcome_eq_next.mpr (rotA_eq h)
  exact ⟨fun h => rotated (rotResult_rlc c h), fun h => rotated (rotResult_rrc c h), fun h => rotated (rotResult_rl h),
    fun h => rotated (rotResult_rr h), rfl, rfl, rfl, rfl, rfl, rfl, rfl, rfl⟩

/-! ### The prefixed rotates, shifts and `SWAP` (R108-R116) -/

/-- The slot is read, and written with the result; then the flags are written. -/
theorem rotR8_eq_ok {op : RotOp} {s t : State} {r : R8} {v x : Byte} {carry : Bool} (hv : Holds8 s r v) (ht : Written8 s r x t)
    (h : rotResult op v (flagC s.cpu.f) = (x, carry)) :
    rotR8 op r s = .ok { t with cpu := { t.cpu with f := packFlags (zr s.cfg.rotZPolicy x) false false carry } } := by
  refine Res.bind_eq_ok.mpr ⟨v, holds8_iff.mp hv, ?_⟩
  rw [h]
  exact Res.bind_eq_ok.mpr ⟨t, written8_iff.mp ht, congrArg Except.ok (setF_packFlags t _ _ _ _)⟩

/-- An instruction of the form writes the result and the flags of its operation; bytes and cost are those of the form. -/
theorem rot_of_form {i : Instr} {op : RotOp} {s t : State} {r : R8} {v x : Byte} {carry : Bool} (hi : i.form = .rot op r)
    (hv : Holds8 s r v) (ht : Written8 s r x t) (h : rotResult op v (flagC s.cpu.f) = (x, carry)) :
    exec i s = .next { t with cpu := { t.cpu with f := packFlags (zr s.cfg.rotZPolicy x) false false carry } } ∧
      encode i = [0xCB, BitVec.ofNat 8 (8 * op.ctorIdx + r.index)] ∧ cycles i s = (if r = .atHL then 16 else 8) := by
  rw [exec_eq_execForm, encode_eq_formBytes, cycles, hi]
  exact ⟨outcome_eq_next.mpr (rotR8_eq_ok hv ht h), rfl, byOperand_eq r 8 16⟩

/-- Settles O30: each of the eight is the form of an operation of `rot` whose result has the given bits. -/
theorem prefixedRotateResult : Obligations.PrefixedRotateResult := by
  intro s t r v x hv ht c z left right after
  have rotated : ∀ {i : Instr} {op : RotOp} {carry : Bool}, i.form = .rot op r → rotResult op v c = (x, carry) →
      after i carry (8 * op.ctorIdx) := fun hi h => rot_of_form hi hv ht h
  exact ⟨fun h => rotated rfl (rotResult_rlc c h), fun h => rotated rfl (rotResult_rrc c h), fun h => rotated rfl (rotResult_rl h),
    fun h => rotated rfl (rotResult_rr h), fun h => rotated rfl (rotResult_sla c h), fun h => rotated rfl (rotResult_sra c h),
    fun h => rotated rfl (rotResult_swap c h), fun h => rotated rfl (rotResult_srl c h)⟩

/-! ### `BIT`, `RES` and `SET` (R117-R119) -/

theorem getLsbD_one_shiftLeft (b : Fin 8) (k : Nat) : ((1 : Byte) <<< b.val).getLsbD k = decide (k = b.val) := by
  have h : ((1 : Byte) <<< b.val).getLsbD k = (decide (b.val < 8) && decide (b.val = k)) := BitVec.getLsbD_twoPow ..
  rw [h, decide_eq_true b.isLt, Bool.true_and]; exact decide_eq_decide.mpr eq_comm

theorem eq_resBit {b : Fin 8} {v x : Byte} (h : ∀ k < 8, x.getLsbD k = (v.getLsbD k && decide (k ≠ b.val))) : x = resBit b v :=
  BitVec.eq_of_getLsbD_eq fun k hk => by
    rw [h k hk, resBit, BitVec.getLsbD_and, BitVec.getLsbD_not, getLsbD_one_shiftLeft]; simp [hk]

theorem eq_setBit {b : Fin 8} {v x : Byte} (h : ∀ k < 8, x.getLsbD k = (v.getLsbD k || decide (k = b.val))) : x = setBit b v :=
  BitVec.eq_of_getLsbD_eq fun k hk => by
    rw [h k hk, setBit, BitVec.getLsbD_or, getLsbD_one_shiftLeft]

theorem bitR8_eq_ok {b : Fin 8} {r : R8} {s : State} {v : Byte} (hv : Holds8 s r v) :
    bitR8 b r s = .ok { s with cpu := { s.cpu with f := packFlags (!v.getLsbD b.val) false true (flagC s.cpu.f) } } := by
  rw [bitR8, holds8_iff.mp hv, Res.ok_bind, bitFlags, setF_packFlags]; rfl

/-- `RES` and `SET`: the slot is read, and written back changed. -/
theorem changeR8_eq_ok {s t : State} {r : R8} {v : Byte} (change : Byte → Byte) (hv : Holds8 s r v)
    (ht : Written8 s r (change v) t) : (readR8 s r >>= fun v => writeR8 s r (change v)) = .ok t :=
  Res.bind_eq_ok.mpr ⟨v, holds8_iff.mp hv, written8_iff.mp ht⟩

/-- Settles O31: `BIT` writes packed flags only; a byte with the given bits is what `RES` or `SET` writes back. -/
theorem bitTestResetSetResult : Obligations.BitTestResetSetResult := by
  intro s t i b r v x hv
  rw [exec_eq_execForm, encode_eq_formBytes, cycles]
  refine ⟨fun hi => ?_, fun hi hbits ht => ?_, fun hi hbits ht => ?_⟩ <;> rw [hi]
  · exact ⟨outcome_eq_next.mpr (bitR8_eq_ok hv), rfl, byOperand_eq r 8 12⟩
  · have hop : resR8 b r s = .ok t := changeR8_eq_ok (resBit b) hv (eq_resBit hbits ▸ ht)
    exact ⟨outcome_eq_next.mpr hop, rfl, byOperand_eq r 8 16⟩
  · have hop : setR8 b r s = .ok t := changeR8_eq_ok (setBit b) hv (eq_setBit hbits ▸ ht)
    exact ⟨outcome_eq_next.mpr hop, rfl, byOperand_eq r 8 16⟩

end Sys2Proof.Machine
end

section
/-! PROOFS. The control transfers: effect, bytes and cycles (45_control_flow.md R120-R131). -/

namespace Sys2Proof.Machine

/-! ### A transfer under a condition (R120) -/

/-- Where the condition is met, the transfer is made at its full cost; where it is not, nothing changes, at the other cost. -/
theorem transfer_under_condition {cc : Cond} {s t : State} {x : Res State} {taken notTaken : Nat} (hx : x = .ok t) :
    (ConditionMet cc s.cpu.f →
      outcome (if condHolds cc s.cpu.f then x else .ok s) = .next t ∧ byCond cc s.cpu.f taken notTaken = taken) ∧
    (¬ ConditionMet cc s.cpu.f →
      outcome (if condHolds cc s.cpu.f then x else .ok s) = .next s ∧ byCond cc s.cpu.f taken notTaken = notTaken) := by
  rw [← condHolds_iff]
  constructor
  · intro hmet
    rw [if_pos hmet, byCond, if_pos hmet]
    exact ⟨outcome_eq_next.mpr hx, rfl⟩
  · intro hnot
    rw [if_neg hnot, byCond, if_neg hnot]
    exact ⟨rfl, rfl⟩

/-! ### Jumps (R121-R125) -/

/-- A relative jump adds the displacement by the sign of its byte, as the statement writes it. -/
theorem jumpRel_eq (eb : Byte) (s : State) : jumpRel eb s =
    jump (s.cpu.pc + (if eb.toNat < 128 then eb.setWidth 16 else eb.setWidth 16 + 0xFF00)) s := by
  rw [jumpRel, sext16_eq]

/-- Settles O32: the jumps write `PC` and no more; the conditional ones are `jump` and `jumpRel` under their condition. -/
theorem jumpResult : Obligations.JumpResult := by
  intro s i cc nn eb at_ rel
  have hrel : jumpRel eb s = .ok (s.setPC rel) := jumpRel_eq eb s
  rw [← immediateBytes_eq]
  refine ⟨⟨rfl, rfl, rfl⟩, ⟨rfl, rfl, rfl⟩, ⟨outcome_eq_next.mpr hrel, rfl, rfl⟩, fun hi => ?_, fun hi => ?_⟩
    <;> rw [exec_eq_execForm, encode_eq_formBytes, cycles, hi]
  · exact ⟨rfl, transfer_under_condition (x := jump nn s) rfl⟩
  · exact ⟨rfl, transfer_under_condition hrel⟩

/-! ### Calls and `RST` (R126, R127, R131) -/

/-- A call stores the two bytes of `PC` below `SP`, as the statement writes them, and goes to its target. -/
theorem callTo_of_stored {s t u : State} (a : Word)
    (hlo : busSet { s with cpu := { s.cpu with sp := s.cpu.sp - 2 } } (s.cpu.sp - 2) (s.cpu.pc.setWidth 8) = .ok t)
    (hhi : busSet t (s.cpu.sp - 1) ((s.cpu.pc >>> 8).setWidth 8) = .ok u) :
    callTo a s = .ok { u with cpu := { u.cpu with pc := a } } := by
  rw [← sub_two_add_one] at hhi
  have hpush : push16 s s.cpu.pc = .ok u := busSet16_of_bytes hlo hhi
  exact Res.bind_eq_ok.mpr ⟨u, hpush, rfl⟩

/-- Settles O33: the three are `callTo` at their target, `CALL cc` under its condition. -/
theorem callResult : Obligations.CallResult := by
  intro s t u i cc nn y hlo hhi target
  have hcall (a : Word) : callTo a s = .ok { u with cpu := { u.cpu with pc := a } } := callTo_of_stored a hlo hhi
  rw [← immediateBytes_eq]
  refine ⟨⟨outcome_eq_next.mpr (hcall nn), rfl, rfl⟩, fun hi => ?_, fun hi => ?_⟩
    <;> rw [exec_eq_execForm, encode_eq_formBytes, cycles, hi]
  · exact ⟨rfl, transfer_under_condition (hcall nn)⟩
  · exact ⟨outcome_eq_next.mpr (hcall _), rfl, rfl⟩

/-! ### Returns (R128-R130) -/

theorem ret_of_busGet16 {s : State} {v : Word} (h : busGet16 s s.cpu.sp = .ok v) :
    ret s = .ok { s with cpu := { s.cpu with pc := v, sp := s.cpu.sp + 2 } } :=
  Res.bind_eq_ok.mpr ⟨(v, s.setSP (s.cpu.sp + 2)), pop16_eq_ok.mpr ⟨h, rfl⟩, rfl⟩

/-- A return from an interrupt is a return that sets `IME` (R130). -/
theorem returnFromInterrupt_eq (s : State) : returnFromInterrupt s = ret s >>= fun t => .ok (t.setIME true) := by
  rw [returnFromInterrupt, ret]
  cases pop16 s <;> rfl

/-- Settles O34: the three are `ret` of the word at `SP`; `RET cc` under its condition, `RETI` before it sets `IME`. -/
theorem returnResult : Obligations.ReturnResult := by
  intro s i cc lo hi hlo hhi back
  have hret : ret s = .ok back := ret_of_busGet16 (busGet16_of_bytes hlo hhi)
  have hreti : returnFromInterrupt s = .ok (back.setIME true) := by rw [returnFromInterrupt_eq, hret]; rfl
  refine ⟨⟨outcome_eq_next.mpr hret, rfl, rfl⟩, ⟨outcome_eq_next.mpr hreti, rfl, rfl⟩, fun hform => ?_⟩
  rw [exec_eq_execForm, encode_eq_formBytes, cycles, hform]
  exact ⟨rfl, transfer_under_condition hret⟩

end Sys2Proof.Machine
end

section
/-! PROOFS. The undefined opcodes, the prefix byte and the other system instructions (46_system.md R132-R138). -/

namespace Sys2Proof.Machine

/-! ### The undefined opcodes (R138; 60_exceptions.md R139, R143, R145) -/

/-- After halt exit a CPU that runs, or that a ripe interrupt wakes, is not halted. -/
theorem haltExit_eq_setHalted {s : State} (h : s.cpu.halted = true → s.ripe ≠ 0) : haltExit s = s.setHalted false := by
  have hhalted : (s.cpu.halted && s.ripe == 0) = false := by
    rw [Bool.and_eq_false_imp]
    exact fun hh => beq_eq_false_iff_ne.mpr (h hh)
  rw [haltExit_eq, hhalted, State.setHalted]

/-- Where no interrupt is serviced and the CPU does not idle, `CPU.Step` runs an instruction (R143 step 4). -/
theorem cpuStep_eq_runInstruction {s : State} (hserve : s.cpu.ime = false ∨ s.ripe = 0) (hrun : s.cpu.halted = true → s.ripe ≠ 0) :
    cpuStep s = runInstruction (s.setHalted false) := by
  have hno : (s.cpu.ime && s.ripe != 0) = false := by
    rcases hserve with h | h <;> simp [h]
  rw [cpuStep, haltExit_eq_setHalted hrun]
  exact (if_neg (Bool.eq_false_iff.mp hno)).trans (if_neg Bool.false_ne_true)

theorem decode_undefined : ∀ op ∈ ([0xD3, 0xDB, 0xDD, 0xE3, 0xE4, 0xEB, 0xEC, 0xED, 0xF4, 0xFC, 0xFD] : List Byte),
    decode [op] = .ok (.illegal op, []) := by decide

theorem exec_illegal (op : Byte) (s : State) : exec (.illegal op) s = .fault (.undefinedOpcode op (s.cpu.pc - 1) s) := rfl

/-- The run of an undefined opcode ends at the address of its byte, in the state with `PC` past it. -/
theorem runInstruction_undefined {s : State} {op : Byte} (hget : busGet s s.cpu.pc = .ok op)
    (hdec : decode [op] = .ok (.illegal op, [])) :
    runInstruction s = .fault (.undefinedOpcode op s.cpu.pc (s.setPC (s.cpu.pc + 1))) := by
  have hbytes : busHolds s s.cpu.pc [op] := ⟨hget, trivial⟩
  have hfetch : fetch s = .ok (.illegal op, s.setPC (s.cpu.pc + 1)) := fetch_of_bytes hbytes hdec
  have hpc : (s.setPC (s.cpu.pc + 1)).cpu.pc - 1 = s.cpu.pc := BitVec.add_sub_cancel ..
  simp only [runInstruction, hfetch, exec_illegal, hpc]

theorem step_eq_fault {s : State} {f : Fault} : step s = .fault f ↔ cpuStep (deliverInputs s) = .fault f := by
  unfold step
  split <;> rename_i h <;> simp [h]

/-- A step in which the CPU runs, or is woken, and fetches an undefined opcode. -/
theorem step_undefined {s d : State} {op : Byte} (hd : deliverInputs s = d) (hget : busGet d d.cpu.pc = .ok op)
    (hdec : decode [op] = .ok (.illegal op, [])) (hserve : d.cpu.ime = false ∨ d.ripe = 0) (hrun : d.cpu.halted = true → d.ripe ≠ 0) :
    step s = .fault (.undefinedOpcode op d.cpu.pc ((d.setHalted false).setPC (d.cpu.pc + 1))) := by
  rw [step_eq_fault, hd, cpuStep_eq_runInstruction hserve hrun]
  exact runInstruction_undefined (s := d.setHalted false) hget hdec

/-- Settles O9: the step runs what it fetches after halt exit, which leaves `PC` and the memory as they are, and `halted` too where the
CPU was running. -/
theorem undefinedOpcodeEndsTheRun : Obligations.UndefinedOpcodeEndsTheRun := by
  intro s op
  refine ⟨fun _ => exec_illegal op s, fun hop hget hserve => ?_⟩
  have ends := step_undefined rfl hget (decode_undefined op hop) hserve
  constructor
  · intro hrunning
    have hsame : (deliverInputs s).setHalted false = deliverInputs s := by rw [← hrunning]; rfl
    rw [ends (by simp [hrunning]), hsame]
    rfl
  · exact fun _ hripe => ends fun _ => hripe

/-! ### The prefix byte (R137; 30_encoding.md R53) -/

/-- The form of a prefixed instruction by the fields x and y of its second byte and its operand (30_encoding.md R53). -/
def fieldsForm (x y : Nat) (r : R8) : Form :=
  if x = 0 then .rot (RotOp.ofIndex y) r else if x = 1 then .bit (Fin.ofNat 8 y) r
  else if x = 2 then .res (Fin.ofNat 8 y) r else .set (Fin.ofNat 8 y) r

theorem decode_prefixed (op2 : Byte) : ∃ i, decode [0xCB, op2] = .ok (i, []) ∧
    i.form = fieldsForm (op2.toNat / 64) (op2.toNat / 8 % 8) (R8.ofIndex (op2.toNat % 8)) :=
  prefixedMapFollowsTheFields op2 []

/-- The prefix byte's meaning selects its operation by the fields, as the second table does. -/
theorem execForm_prefixed (op2 : Byte) (s : State) : execForm (.prefixed op2) s =
    execForm (fieldsForm (op2.toNat / 64) (op2.toNat / 8 % 8) (R8.ofIndex (op2.toNat % 8))) s := by
  simp only [execForm, formResult, prefixedByFields]
  rcases op2.toNat / 64 with _ | _ | _ | _ <;> rfl

theorem formCycles_fieldsForm (x y : Nat) (r : R8) (f : Byte) :
    formCycles (fieldsForm x y r) f = byOperand r 8 (if x = 1 then 12 else 16) := by
  rcases x with _ | _ | _ | _ <;> rfl

theorem rotOp_ctorIdx_ofIndex {y : Nat} (hy : y < 8) : (RotOp.ofIndex y).ctorIdx = y := by
  interval_cases y <;> rfl

theorem r8_index_ofIndex {z : Nat} (hz : z < 8) : (R8.ofIndex z).index = z := by
  interval_cases z <;> rfl

theorem formBytes_fieldsForm {x y : Nat} (hx : x < 4) (hy : y < 8) (r : R8) :
    formBytes (fieldsForm x y r) = [0xCB, BitVec.ofNat 8 (64 * x + 8 * y + r.index)] := by
  have hmod : y % 8 = y := Nat.mod_eq_of_lt hy
  interval_cases x <;> simp [fieldsForm, formBytes, rotOp_ctorIdx_ofIndex hy, hmod]

/-- The fields of a byte are all of it. -/
theorem ofNat_fields (op : Byte) : BitVec.ofNat 8 (64 * (op.toNat / 64) + 8 * (op.toNat / 8 % 8) + op.toNat % 8) = op := by
  have hsum : 64 * (op.toNat / 64) + 8 * (op.toNat / 8 % 8) + op.toNat % 8 = op.toNat := by omega
  rw [hsum, BitVec.ofNat_toNat, BitVec.setWidth_eq]

theorem readR8_answers {s : State} (h : readable s s.hl) (r : R8) : ∃ v, readR8 s r = .ok v := by
  cases r with
  | atHL => exact (busGet_answers s s.hl).mpr h
  | B | C | D | E | H | L | A => exact ⟨_, rfl⟩

theorem writeR8_answers {s : State} {v : Byte} (h : storable s s.hl v) (r : R8) : ∃ t, writeR8 s r v = .ok t := by
  cases r with
  | atHL => exact (busSet_answers s s.hl v).mpr h
  | B | C | D | E | H | L | A => exact ⟨_, rfl⟩

/-- Every operation of the second table reads its slot first and writes none but that; so it completes where the byte at `HL`
answers. -/
theorem prefixedByFields_answers {s : State} (hread : readable s s.hl) (hstore : ∀ v, storable s s.hl v) (op2 : Byte) :
    ∃ t, prefixedByFields op2 s = .ok t := by
  unfold prefixedByFields
  generalize R8.ofIndex (op2.toNat % 8) = r
  obtain ⟨v, hv⟩ := readR8_answers hread r
  have hwrite (x : Byte) : ∃ t, writeR8 s r x = .ok t := writeR8_answers (hstore x) r
  have hchange (f : Byte → Byte) : ∃ t, (readR8 s r >>= fun v => writeR8 s r (f v)) = .ok t := by
    rw [hv]; exact hwrite (f v)
  split
  · obtain ⟨t, ht⟩ := hwrite (rotResult (RotOp.ofIndex (op2.toNat / 8 % 8)) v (flagC s.cpu.f)).1
    exact ⟨_, Res.bind_eq_ok.mpr ⟨v, hv, Res.bind_eq_ok.mpr ⟨t, ht, rfl⟩⟩⟩
  · exact ⟨_, Res.bind_eq_ok.mpr ⟨v, hv, rfl⟩⟩
  · exact hchange (resBit _)
  · exact hchange (setBit _)

/-- Settles O36: the form that the decoder's instruction has by its fields (O4) means, encodes and costs what the prefix byte does. -/
theorem prefixByteSelectsTheSecondTable : Obligations.PrefixByteSelectsTheSecondTable := by
  intro s op2
  obtain ⟨i, hdec, hform⟩ := decode_prefixed op2
  refine ⟨⟨i, hdec, ?_, ?_, ?_⟩, fun hread hstore => ?_⟩
  · rw [encode_eq_formBytes, hform, formBytes_fieldsForm (by omega) (by omega), r8_index_ofIndex (by omega), ofNat_fields]
    rfl
  · rw [exec_eq_execForm, exec_eq_execForm, hform]
    exact execForm_prefixed op2 s
  · rw [cycles, cycles, hform, formCycles_fieldsForm]
    rfl
  · obtain ⟨t, ht⟩ := prefixedByFields_answers hread hstore op2
    exact ⟨t, outcome_eq_next.mpr ht⟩

/-! ### `NOP`, `HALT`, `STOP`, `DI` and `EI` (R132-R136) -/

/-- Settles O35: each is its operation, `nopOp`, `haltOp` or `imeOp`, and those are the writes of the statement. -/
theorem systemInstructionResult : Obligations.SystemInstructionResult := fun _ =>
  ⟨⟨rfl, rfl, rfl⟩, ⟨rfl, rfl, rfl⟩, ⟨rfl, rfl, rfl⟩, ⟨rfl, rfl, rfl⟩, ⟨rfl, rfl, rfl⟩⟩

end Sys2Proof.Machine
end

section
/-! PROOFS. One system step by its kinds: the dispatch of an interrupt, the idle step of a halted CPU, the instruction at `PC`, and the
steps that stop (60_exceptions.md R139, R143-R147). -/

namespace Sys2Proof.Machine

/-! ### Halt exit and the instruction at `PC` (R143 step 4, R145) -/

/-- Halt exit, as the statements write it. -/
theorem haltExit_eq_ite (s : State) :
    haltExit s = if s.cpu.halted = true ∧ s.ripe ≠ 0 then { s with cpu := { s.cpu with halted := false } } else s := by
  simp only [haltExit, Bool.and_eq_true, bne_iff_ne]
  rfl

/-- A CPU that halt exit leaves running was running, or a ripe interrupt woke it. -/
theorem ripe_of_haltExit_running {s : State} (h : (haltExit s).cpu.halted = false) : s.cpu.halted = true → s.ripe ≠ 0 := by
  intro hhalted hripe
  rw [haltExit_eq, hhalted, hripe] at h
  cases h

/-- Settles O6: after halt exit the CPU runs, so the step's instruction is the one fetched, which the bytes at `PC` are. -/
theorem stepRunsTheDecodedInstruction : Obligations.StepRunsTheDecodedInstruction := by
  intro s i bytes d s0 hserve hrun hbytes hdec s1
  have hs0 : s0 = haltExit d := (haltExit_eq_ite d).symm
  clear_value s0
  subst hs0
  have hwake := ripe_of_haltExit_running hrun
  have hcpu : cpuStep d = runInstruction (haltExit d) := by
    rw [haltExit_eq_setHalted hwake] at hserve ⊢
    exact cpuStep_eq_runInstruction hserve hwake
  have hfetch : fetch (haltExit d) = .ok (i, s1) := fetch_of_bytes hbytes hdec
  rw [step, hcpu, runInstruction, hfetch]
  dsimp only
  cases exec i s1 <;> rfl

/-! ### The idle step (R143 step 3) -/

/-- Settles O8: with nothing ripe there is no halt exit and no dispatch. -/
theorem haltedStepIdles : Obligations.HaltedStepIdles := by
  intro s d hhalted hnone
  have hripe : d.ripe = 0 := hnone
  have hexit : haltExit d = d := by rw [haltExit_eq_ite, if_neg fun h => h.2 hripe]
  have hno : (d.cpu.ime && d.ripe != 0) = false := by simp [hripe]
  have hidle : cpuStep d = .next (d, 4) := by
    rw [cpuStep, hexit]
    exact (if_neg (Bool.eq_false_iff.mp hno)).trans (if_pos hhalted)
  exact step_eq_next.mpr ⟨d, 4, hidle, rfl⟩

/-! ### The dispatch of an interrupt (R143 step 2, R144, R146, R147) -/

/-- The five interrupts are the bits that the mask of `ripe` lets through. -/
theorem ripe_getLsbD (s : State) {j : Nat} (hj : j < 5) : s.ripe.getLsbD j = (s.irq.enable &&& s.irq.flags).getLsbD j := by
  have hmask : (0x1F#8).getLsbD j = true := by interval_cases j <;> rfl
  have h : s.ripe.getLsbD j = ((s.irq.enable &&& s.irq.flags).getLsbD j && (0x1F#8).getLsbD j) := BitVec.getLsbD_and
  rw [h, hmask, Bool.and_true]

theorem lowestRipe_eq {ripe : Byte} {k : Nat} (hk : k < 5) (hset : ripe.getLsbD k = true) (hleast : ∀ j < k, ripe.getLsbD j = false) :
    lowestRipe ripe = k := by
  unfold lowestRipe
  interval_cases k <;> simp (disch := omega) only [hset, hleast, Bool.false_eq_true, if_true, if_false]

/-- With `IME` set and something ripe the least of the five is serviced, also where it ends HALT. -/
theorem cpuStep_eq_serviceInterrupt {s : State} (hime : s.cpu.ime = true) (hripe : s.ripe ≠ 0) :
    cpuStep s = serviceInterrupt (s.setHalted false) := by
  have hserve : (s.cpu.ime && s.ripe != 0) = true := by rw [hime, Bool.true_and]; exact bne_iff_ne.mpr hripe
  rw [cpuStep, haltExit_eq_setHalted fun _ => hripe]
  exact if_pos hserve

/-- Settles O7: the step services the least ripe interrupt, and the service is the writes that the statement lists. -/
theorem interruptDispatchStep : Obligations.InterruptDispatchStep := by
  intro s t k d hime hk hset hleast hpush
  have hbit : d.ripe.getLsbD k = true := (ripe_getLsbD d hk).trans hset
  have hripe : d.ripe ≠ 0 := fun h => by simp [h] at hbit
  have hlowest : lowestRipe d.ripe = k :=
    lowestRipe_eq hk hbit fun j hj => (ripe_getLsbD d (hj.trans hk)).trans (hleast j hj)
  have htake : takeInterrupt (d.setHalted false) k = .ok (t.setPC (vector k)) := Res.bind_eq_ok.mpr ⟨t, hpush, rfl⟩
  have hserve : serviceInterrupt (d.setHalted false) = .next (t.setPC (vector k), 20) := by
    have hlowest : lowestRipe (d.setHalted false).ripe = k := hlowest
    rw [serviceInterrupt, hlowest, htake, irqDispatchCycles]
  exact step_eq_next.mpr ⟨_, 20, (cpuStep_eq_serviceInterrupt hime hripe).trans hserve, rfl⟩

/-! ### Faults (R138, R139) -/

/-- The eleven opcode values that select no instruction (46_system.md R138). -/
def undefinedOpcodes : List Byte := [0xD3, 0xDB, 0xDD, 0xE3, 0xE4, 0xEB, 0xEC, 0xED, 0xF4, 0xFC, 0xFD]

/-- A row has the undefined form only where it is one of the eleven, of one byte, and carries its own opcode. -/
theorem row_undefined {op k b1 b2 : Byte} (h : rowForm b1 b2 (row op) = some (.illegal k)) :
    row op = .op (.illegal op) ∧ op ∈ undefinedOpcodes ∧ k = op := by
  obtain ⟨x, y, z, rfl⟩ := byte_of_fields op
  fin_cases x, z, y <;> cases h <;> exact ⟨rfl, by decide, rfl⟩

theorem cbInstr_defined (op2 op : Byte) : (cbInstr op2).form ≠ .illegal op := by
  obtain ⟨i, hdec, hform⟩ := decode_prefixed op2
  obtain rfl : cbInstr op2 = i := (Prod.mk.inj (Except.ok.inj hdec)).1
  rw [hform, fieldsForm]
  split_ifs <;> exact Form.noConfusion

/-- A fetch gives an undefined opcode only where the byte at `PC` is one of the eleven, and then takes that byte alone. -/
theorem fetch_undefined {s u : State} {i : Instr} {op : Byte} (h : fetch s = .ok (i, u)) (hi : i.form = .illegal op) :
    busGet s s.cpu.pc = .ok op ∧ op ∈ undefinedOpcodes ∧ u = s.setPC (s.cpu.pc + 1) := by
  obtain ⟨first, hfirst, h⟩ := Res.bind_eq_ok.mp h
  cases hrow : row first with
  | op j =>
    rw [hrow] at h
    cases h
    obtain ⟨-, hmem, rfl⟩ := row_undefined (b1 := 0) (b2 := 0) (by rw [hrow, rowForm, hi])
    exact ⟨hfirst, hmem, rfl⟩
  | opN mk =>
    rw [hrow] at h
    obtain ⟨n, -, h⟩ := Res.bind_eq_ok.mp h
    cases h
    exact nomatch hrow.symm.trans (row_undefined (b1 := n) (b2 := 0) (by rw [hrow, rowForm, hi])).1
  | opNN mk =>
    rw [hrow] at h
    obtain ⟨lo, -, h⟩ := Res.bind_eq_ok.mp h
    obtain ⟨hi8, -, h⟩ := Res.bind_eq_ok.mp h
    cases h
    exact nomatch hrow.symm.trans (row_undefined (b1 := lo) (b2 := hi8) (by rw [hrow, rowForm, hi])).1
  | cbOp =>
    rw [hrow] at h
    obtain ⟨op2, -, h⟩ := Res.bind_eq_ok.mp h
    cases h
    exact absurd hi (cbInstr_defined op2 op)

/-- A `CPU.Step` that faults fetched, after halt exit, an undefined opcode at `PC`. -/
theorem cpuStep_undefined {s : State} {f : Fault} (h : cpuStep s = .fault f) :
    ∃ op, f = .undefinedOpcode op s.cpu.pc ((s.setHalted false).setPC (s.cpu.pc + 1)) ∧ op ∈ undefinedOpcodes ∧
      busGet s s.cpu.pc = .ok op := by
  obtain ⟨hrun, i, u, hfetch, hexec⟩ := cpuStep_eq_fault h
  rw [haltExit_eq_setHalted (ripe_of_haltExit_running hrun)] at hfetch
  obtain ⟨op, hform, rfl⟩ := exec_eq_fault hexec
  obtain ⟨hget, hmem, rfl⟩ := fetch_undefined hfetch hform
  have hpc : ((s.setHalted false).setPC (s.cpu.pc + 1)).cpu.pc - 1 = s.cpu.pc := BitVec.add_sub_cancel ..
  exact ⟨op, congrArg (Fault.undefinedOpcode op · _) hpc, hmem, hget⟩

/-! ### Refusals (R39, R40) -/

theorem refuses_bind_ok {α β : Type} {x : Res α} (h : RefusesOnlyAbsent x) (f : α → β) :
    RefusesOnlyAbsent (x >>= fun a => .ok (f a)) :=
  refuses_bind h fun a => refuses_ok (f a)

theorem refuses_ite {α : Type} {c : Prop} [Decidable c] {x y : Res α} (hx : RefusesOnlyAbsent x) (hy : RefusesOnlyAbsent y) :
    RefusesOnlyAbsent (if c then x else y) := by
  split
  · exact hx
  · exact hy

theorem refuses_loadA (a : Word) (s : State) : RefusesOnlyAbsent (loadA a s) := refuses_bind_ok (refuses_busGet s a) _

theorem refuses_storeA (a : Word) (s : State) : RefusesOnlyAbsent (storeA a s) := refuses_busSet s a _

theorem refuses_loadAStep (delta : Word) (s : State) : RefusesOnlyAbsent (loadAStep delta s) := refuses_bind_ok (refuses_busGet s _) _

theorem refuses_storeAStep (delta : Word) (s : State) : RefusesOnlyAbsent (storeAStep delta s) :=
  refuses_bind_ok (refuses_busSet s _ _) _

theorem refuses_changeR8 (s : State) (r : R8) (f : Byte → State × Byte) :
    RefusesOnlyAbsent (readR8 s r >>= fun v => writeR8 (f v).1 r (f v).2) :=
  refuses_bind (refuses_readR8 s r) fun _ => refuses_writeR8 _ r _

theorem refuses_rotR8 (op : RotOp) (r : R8) (s : State) : RefusesOnlyAbsent (rotR8 op r s) :=
  refuses_bind (refuses_readR8 s r) fun _ => refuses_bind_ok (refuses_writeR8 s r _) _

theorem refuses_bitR8 (b : Fin 8) (r : R8) (s : State) : RefusesOnlyAbsent (bitR8 b r s) := refuses_bind_ok (refuses_readR8 s r) _

theorem refuses_resR8 (b : Fin 8) (r : R8) (s : State) : RefusesOnlyAbsent (resR8 b r s) :=
  refuses_changeR8 s r fun v => (s, resBit b v)

theorem refuses_setR8 (b : Fin 8) (r : R8) (s : State) : RefusesOnlyAbsent (setR8 b r s) :=
  refuses_changeR8 s r fun v => (s, setBit b v)

theorem refuses_prefixedByFields (op2 : Byte) (s : State) : RefusesOnlyAbsent (prefixedByFields op2 s) := by
  unfold prefixedByFields
  dsimp only
  split
  · exact refuses_rotR8 _ _ s
  · exact refuses_bitR8 _ _ s
  · exact refuses_resR8 _ _ s
  · exact refuses_setR8 _ _ s

theorem refuses_callTo (a : Word) (s : State) : RefusesOnlyAbsent (callTo a s) := refuses_bind_ok (refuses_push16 s _) _

theorem refuses_ret (s : State) : RefusesOnlyAbsent (ret s) := refuses_bind_ok (refuses_pop16 s) _

/-- Every operation reads and writes through the Bus alone, so it refuses only what the Bus does. -/
theorem refuses_formResult (x : Form) (s : State) : RefusesOnlyAbsent (formResult x s) := by
  cases x with
  | ld8 d src => exact refuses_bind (refuses_readR8 s src) fun v => refuses_writeR8 s d v
  | ld8n d n => exact refuses_writeR8 s d n
  | ldAInd | ldAAbs | ldhAn | ldhAC => exact refuses_loadA _ s
  | ldIndA | ldAbsA | ldhnA | ldhCA => exact refuses_storeA _ s
  | ldAHLinc | ldAHLdec => exact refuses_loadAStep _ s
  | ldHLincA | ldHLdecA => exact refuses_storeAStep _ s
  | ldAbsSP nn => exact refuses_bind (refuses_busSet s nn _) fun t => refuses_busSet t _ _
  | push rr => exact refuses_push16 s _
  | pop rr => exact refuses_bind_ok (refuses_pop16 s) _
  | alu op src => exact refuses_bind_ok (refuses_readR8 s src) _
  | inc8 r => exact refuses_changeR8 s r fun v => (s.setF (inc8Result v s.cpu.f).2, (inc8Result v s.cpu.f).1)
  | dec8 r => exact refuses_changeR8 s r fun v => (s.setF (dec8Result v s.cpu.f).2, (dec8Result v s.cpu.f).1)
  | rot op r => exact refuses_rotR8 op r s
  | bit b r => exact refuses_bitR8 b r s
  | res b r => exact refuses_resR8 b r s
  | set b r => exact refuses_setR8 b r s
  | jpCond | jrCond => exact refuses_ite (refuses_ok _) (refuses_ok s)
  | call | rst => exact refuses_callTo _ s
  | callCond => exact refuses_ite (refuses_callTo _ s) (refuses_ok s)
  | ret => exact refuses_ret s
  | retCond => exact refuses_ite (refuses_ret s) (refuses_ok s)
  | reti => exact refuses_bind_ok (refuses_pop16 s) _
  | prefixed op2 => exact refuses_prefixedByFields op2 s
  | ld16 | ldSPHL | ldHLSPe | aluN | daa | cpl | scf | ccf | addHL | inc16 | dec16 | addSPe | rlca | rrca | rla | rra | jp | jpHL | jr
  | nop | halt | stop | di | ei | illegal => exact refuses_ok _

theorem exec_eq_refused {i : Instr} {s : State} {r : Refusal} (h : exec i s = .refused r) : formResult i.form s = .error r := by
  rw [exec_eq_execForm] at h
  unfold execForm at h
  split at h
  · cases h
  · exact outcome_eq_refused.mp h

theorem refuses_takeInterrupt (s : State) (k : Nat) : RefusesOnlyAbsent (takeInterrupt s k) := refuses_bind_ok (refuses_push16 _ _) _

theorem step_eq_refused {s : State} {r : Refusal} : step s = .refused r ↔ cpuStep (deliverInputs s) = .refused r := by
  unfold step
  split <;> rename_i h <;> simp [h]

/-- The three ways `CPU.Step` is refused: in the push of a dispatch, in the fetch, or in the instruction's operation. -/
theorem cpuStep_eq_refused {s : State} {r : Refusal} (h : cpuStep s = .refused r) :
    takeInterrupt (haltExit s) (lowestRipe (haltExit s).ripe) = .error r ∨ fetch (haltExit s) = .error r ∨
    ∃ i u, fetch (haltExit s) = .ok (i, u) ∧ formResult i.form u = .error r := by
  unfold cpuStep at h
  dsimp only at h
  split at h
  · unfold serviceInterrupt at h
    split at h <;> cases h
    exact .inl ‹_›
  · split at h
    · cases h
    · unfold runInstruction at h
      split at h
      next hfetch =>
        cases h
        exact .inr (.inl hfetch)
      next i u hfetch =>
        split at h <;> cases h
        next hexec => exact .inr (.inr ⟨i, u, hfetch, exec_eq_refused hexec⟩)

/-- Settles O10: only an undefined opcode at `PC` faults, and each of the three ways to be refused is an access that is absent. -/
theorem onlyUndefinedOpcodesFault : Obligations.OnlyUndefinedOpcodesFault := by
  refine ⟨fun s f h => cpuStep_undefined (step_eq_fault.mp h), fun s r h => ?_⟩
  obtain hpush | hfetch | ⟨i, u, -, hop⟩ := cpuStep_eq_refused (step_eq_refused.mp h)
  · exact refuses_takeInterrupt _ _ r hpush
  · exact refuses_fetch _ r hfetch
  · exact refuses_formResult i.form u r hop

end Sys2Proof.Machine
end

section
/-! PROOFS. The joypad, the serial port and the Timer (60_exceptions.md R152-R156). -/

namespace Sys2Proof.Machine

/-! ### The joypad register (R155) -/

/-- A line of `P1` is low where a button pulls it down in a group that is selected, by a select bit of 0. -/
theorem joypadGet_line (j : Joypad) {k : Nat} (hk : k < 4) : (joypadGet j).getLsbD k =
    !((!j.select.getLsbD 0 && j.buttons.getLsbD k) || (!j.select.getLsbD 1 && j.buttons.getLsbD (k + 4))) := by
  have hones : (0xF#4).getLsbD k = true := by interval_cases k <;> rfl
  have hgroup (off : Bool) (start : Nat) :
      (if off then (0xF#4) else ~~~(j.buttons.extractLsb' start 4)).getLsbD k = (off || !j.buttons.getLsbD (start + k)) := by
    cases off <;> simp [hk, hones]
  have hline : (joypadGet j).getLsbD k = ((j.select.getLsbD 0 || !j.buttons.getLsbD (0 + k)) &&
      (j.select.getLsbD 1 || !j.buttons.getLsbD (4 + k))) := by
    rw [← hgroup, ← hgroup, ← BitVec.getLsbD_and]
    exact (BitVec.getLsbD_append ..).trans (if_pos hk)
  rw [hline, Nat.zero_add, Nat.add_comm 4, Bool.not_or, Bool.not_and, Bool.not_and, Bool.not_not, Bool.not_not]

/-- Above the lines stand the two select bits, and two ones above those. -/
theorem joypadGet_upper (j : Joypad) : (joypadGet j).getLsbD 7 = true ∧ (joypadGet j).getLsbD 6 = true ∧
    (joypadGet j).getLsbD 5 = j.select.getLsbD 1 ∧ (joypadGet j).getLsbD 4 = j.select.getLsbD 0 := by
  simp only [joypadGet, BitVec.getLsbD_append]
  exact ⟨rfl, rfl, rfl, rfl⟩

theorem joypadSet_eq (j : Joypad) (v : Byte) : joypadSet j v = { j with select := BitVec.ofNat 2 (v.toNat / 16) } := by
  rw [joypadSet, BitVec.extractLsb', Nat.shiftRight_eq_div_pow]

/-! ### The serial control register (R156) -/

theorem and_0x81_eq_iff : ∀ v : Byte, v &&& 0x81 = 0x81 ↔ v.getLsbD 7 = true ∧ v.getLsbD 0 = true := by decide

theorem busSet_serialControl (s : State) (v : Byte) :
    busSet s 0xFF02 v = .ok { s with serial := serialSetControl s.serial v } :=
  busSet_at (off := 1) (selectMapping_serial s (by decide)) rfl v

/-- Settles O48: P1, SB and SC are at their mappings; the events are `applyEvent`, branch by branch. -/
theorem joypadAndSerialBehaviour : Obligations.JoypadAndSerialBehaviour := by
  constructor
  · intro s v
    refine ⟨?_, ⟨joypadGet s.joypad, busGet_of_selected (selectMapping_joypad s (by decide)), ?_⟩,
      busSet_at (off := 0) (selectMapping_serial s (by decide)) rfl v, fun h7 h0 => ?_, fun hclear => ?_⟩
    · rw [busSet_of_selected (selectMapping_joypad s (by decide)), ← joypadSet_eq]
      rfl
    · obtain ⟨h7, h6, h5, h4⟩ := joypadGet_upper s.joypad
      exact ⟨h7, h6, h5, h4, fun _ => joypadGet_line s.joypad⟩
    · rw [busSet_serialControl, serialSetControl, if_pos ((and_0x81_eq_iff v).mpr ⟨h7, h0⟩)]
    · have hno : ¬ v &&& 0x81 = 0x81 := by
        rw [and_0x81_eq_iff, not_and_or, Bool.not_eq_true, Bool.not_eq_true]
        exact hclear
      rw [busSet_serialControl, serialSetControl, if_neg hno]
  · intro s button k
    exact ⟨fun hheld => if_pos hheld, fun hup => if_neg (Bool.eq_false_iff.mp hup), rfl⟩

/-! ### The Timer (R153) -/

/-- `s` after threshold crossings that leave `TIMA` at `x.1`, with the interrupt requested if `x.2`. -/
def crossed (s : State) (x : Byte × Bool) : State := { s with
  timer := { s.timer with tima := x.1 }
  irq := { s.irq with flags := if x.2 then s.irq.flags ||| 0x04 else s.irq.flags } }

theorem bumpTima_crossed (s : State) (x : Byte × Bool) : bumpTima (crossed s x) = crossed s (timaCrossing s.timer.tma x) := by
  obtain ⟨tima, requested⟩ := x
  unfold bumpTima timaCrossing
  by_cases h : tima = 0xFF
  · rw [if_pos h, if_pos (show (crossed s (tima, requested)).timer.tima = 0xFF from h)]
    cases requested <;> simp [crossed, State.requestInterrupt, BitVec.or_assoc]
  · rw [if_neg h, if_neg (show ¬ (crossed s (tima, requested)).timer.tima = 0xFF from h)]
    rfl

theorem bumpTimaTimes_crossed (k : Nat) (s : State) (x : Byte × Bool) :
    bumpTimaTimes k (crossed s x) = crossed s ((timaCrossing s.timer.tma)^[k] x) := by
  induction k generalizing x with
  | zero => rfl
  | succ k ih => rw [bumpTimaTimes, bumpTima_crossed, ih, Function.iterate_succ_apply]

/-- Settles O49: `DIV` first, then while the timer is enabled the crossings, each one applied to the counter and the flag. -/
theorem timerTickResult : Obligations.TimerTickResult := by
  intro n s d threshold u x ticked
  have hdiv : tickDiv n s = { s with timer := ticked } := rfl
  constructor
  · intro hoff
    have hoff : ¬ timerEnabled ticked.tac = true := Bool.eq_false_iff.mp hoff
    rw [timerTick, hdiv, tickTima, if_neg hoff]
  · intro hon
    have hon : timerEnabled ticked.tac = true := hon
    rw [timerTick, hdiv, tickTima, if_pos hon]
    exact bumpTimaTimes_crossed (u / threshold) { s with timer := { ticked with timaSub := u % threshold } } (s.timer.tima, false)

end Sys2Proof.Machine
end

section
/-! PROOFS. The decoder and the encoder as inverses, through the formats of an instruction (30_encoding.md R48-R54). -/

namespace Sys2Proof.Machine

/-! ### The formats (R48) -/

/-- `bytes` are those of an instruction by a row of the unprefixed table, with the immediate the row asks for, or by the byte 0xCB and
the second byte it selects by. -/
inductive EncodedAs : Instr → List Byte → Prop
  | opOnly {op : Byte} {i : Instr} (h : row op = .op i) : EncodedAs i [op]
  | withByte {op : Byte} {mk : Byte → Instr} (n : Byte) (h : row op = .opN mk) : EncodedAs (mk n) [op, n]
  | withWord {op : Byte} {mk : Word → Instr} (nn : Word) (h : row op = .opNN mk) : EncodedAs (mk nn) [op, loByte nn, hiByte nn]
  | prefixed {op op2 : Byte} {i : Instr} (h : row op = .cbOp) (h2 : cbInstr op2 = i) : EncodedAs i [op, op2]

/-- The decoder reads an instruction of some format and leaves the bytes after it. -/
theorem decode_eq_ok_iff {bytes rest : List Byte} {i : Instr} :
    decode bytes = .ok (i, rest) ↔ ∃ own, EncodedAs i own ∧ bytes = own ++ rest := by
  constructor
  · intro h
    unfold decode at h
    split at h
    · cases h
    · split at h <;> cases h
      · exact ⟨_, .opOnly ‹_›, rfl⟩
      · exact ⟨_, .withByte _ ‹_›, rfl⟩
      · exact ⟨_, .withWord _ ‹_›, by simp⟩
      · exact ⟨_, .prefixed ‹_› rfl, rfl⟩
  · rintro ⟨own, h, rfl⟩
    cases h with
    | opOnly h | withByte n h => simp [decode, h]
    | withWord nn h => simp [decode, h]
    | prefixed h h2 => simp [decode, h, h2]

/-! ### The second byte of a prefixed instruction (R53) -/

theorem r8_index_lt (r : R8) : r.index < 8 := by cases r <;> decide

theorem r8_ofIndex_index (r : R8) : R8.ofIndex r.index = r := by cases r <;> rfl

/-- The second byte holds its row in bits 7:3 and its operand in bits 2:0. -/
theorem cbInstr_cbByte {k : Nat} (hk : k < 32) (r : R8) : cbInstr (cbByte k r) = (cbRows.getD k .rlc) r := by
  have hr := r8_index_lt r
  have hbyte : (cbByte k r).toNat = 8 * k + r.index := by rw [cbByte, BitVec.toNat_ofNat]; omega
  rw [cbInstr, hbyte, show (8 * k + r.index) / 8 = k by omega, show (8 * k + r.index) % 8 = r.index by omega, r8_ofIndex_index]

theorem encode_cbRow (k : Fin 32) (r : R8) :
    (((cbRows.getD k .rlc) r).wf, encode ((cbRows.getD k .rlc) r)) = (true, [0xCB, cbByte k r]) := by
  fin_cases k <;> rfl

theorem encode_cbInstr (op2 : Byte) : ((cbInstr op2).wf, encode (cbInstr op2)) = (true, [0xCB, op2]) := by
  have hbyte : cbByte (op2.toNat / 8) (R8.ofIndex (op2.toNat % 8)) = op2 := by
    rw [cbByte, r8_index_ofIndex (by omega), Nat.div_add_mod, BitVec.ofNat_toNat, BitVec.setWidth_eq]
  have hrow := encode_cbRow ⟨op2.toNat / 8, by omega⟩ (R8.ofIndex (op2.toNat % 8))
  rwa [hbyte] at hrow

/-! ### From an instruction to its bytes (R52-R54) -/

theorem row_illegal : ∀ op ∈ illegalOpcodes, row op = .op (.illegal op) := by
  simp only [illegalOpcodes, List.forall_mem_cons]
  exact ⟨rfl, rfl, rfl, rfl, rfl, rfl, rfl, rfl, rfl, rfl, rfl, nofun⟩

/-- The encoder's bytes are in the format of the row that selects the instruction. -/
theorem encodedAs_encode {i : Instr} (h : i.wf = true) : EncodedAs i (encode i) := by
  cases i with
  | illegal op => exact .opOnly (row_illegal op (List.contains_iff_mem.mp h))
  | prefixCB op2 => cases h
  | rlc r | rrc r | rl r | rr r | sla r | sra r | swap r | srl r
  | bit_0 r | bit_1 r | bit_2 r | bit_3 r | bit_4 r | bit_5 r | bit_6 r | bit_7 r
  | res_0 r | res_1 r | res_2 r | res_3 r | res_4 r | res_5 r | res_6 r | res_7 r
  | set_0 r | set_1 r | set_2 r | set_3 r | set_4 r | set_5 r | set_6 r | set_7 r =>
    exact .prefixed rfl (cbInstr_cbByte (by decide) r)
  | _ => constructor; rfl

/-- Settles O1: the decoder reads what is in the format of its row, and the encoder writes that. -/
theorem decodeOfEncodeIsTheInstruction : Obligations.DecodeOfEncodeIsTheInstruction :=
  fun i _ hwf => decode_eq_ok_iff.mpr ⟨encode i, encodedAs_encode hwf, rfl⟩

theorem decode_of_encode {i : Instr} {bytes rest : List Byte} (hwf : i.wf = true) (h : encode i ++ rest = bytes) :
    decode bytes = .ok (i, rest) :=
  h ▸ decodeOfEncodeIsTheInstruction i rest hwf

/-- Settles O5: each word is the encoding of its instruction, with nothing after it or, after `STOP`, one byte. -/
theorem wordsFromTheRulesDecode : Obligations.WordsFromTheRulesDecode := by
  refine ⟨?_, ?_, ?_, ?_, ?_, ?_, ?_, ?_, ?_, ?_, ?_, ?_, ?_, ?_, ?_, ?_⟩
  all_goals exact decode_of_encode rfl rfl

/-! ### From bytes to the instruction (R52-R54) -/

/-- A row's instruction, with the immediate `n` or `nn` that the row asks for, is well formed and encoded as the row's first byte and
that immediate. -/
def RowEncodes (op n : Byte) (nn : Word) : Row → Prop
  | .op i => (i.wf, encode i) = (true, [op])
  | .opN mk => ((mk n).wf, encode (mk n)) = (true, [op, n])
  | .opNN mk => ((mk nn).wf, encode (mk nn)) = (true, [op, loByte nn, hiByte nn])
  | .cbOp => op = 0xCB

theorem rowEncodes {op : Byte} {r : Row} (h : row op = r) (n : Byte) (nn : Word) : RowEncodes op n nn r := by
  subst h
  obtain ⟨x, y, z, rfl⟩ := byte_of_fields op
  fin_cases x, y, z <;> exact rfl

theorem EncodedAs.wf_encode {i : Instr} {bytes : List Byte} (h : EncodedAs i bytes) : (i.wf, encode i) = (true, bytes) := by
  cases h with
  | opOnly hrow => exact rowEncodes hrow 0 0
  | withByte n hrow => exact rowEncodes hrow n 0
  | withWord nn hrow => exact rowEncodes hrow 0 nn
  | @prefixed op op2 _ hrow h2 =>
    have hop : op = 0xCB := rowEncodes hrow 0 0
    rw [hop, ← h2]
    exact encode_cbInstr op2

/-- Settles O2: what the decoder reads is in a format, and the encoder writes the bytes of that format. -/
theorem encodeOfDecodeIsTheBytes : Obligations.EncodeOfDecodeIsTheBytes := by
  intro bytes rest i h
  obtain ⟨own, hown, rfl⟩ := decode_eq_ok_iff.mp h
  obtain ⟨hwf, henc⟩ := Prod.mk.inj hown.wf_encode
  exact ⟨hwf, by rw [henc]⟩

end Sys2Proof.Machine
end

section
/-! PROOFS. The OAM DMA: what the copy leaves in `OAM` (61_ppu.md R175). -/

namespace Sys2Proof.Machine

/-- A store in plain RAM is seen by no read but that of its cell. -/
theorem busGet_poke_of_ne {s : State} (hw : Memory.wf s.mem = true) {k : Nat} (hk : k < cramBase) (v : Byte) {a : Word}
    (ha : (unmirror a).toNat ≠ k) : busGet (s.poke k v) a = busGet s a := by
  by_cases hp : plainRam a
  · rw [busGet_plainRam _ hp, busGet_plainRam _ hp, State.peek_poke hw, if_neg ha]
  · exact busGet_poke hw hk v hp

/-- The address that byte `i` of a DMA copy is read from. -/
def dmaSource (page : Byte) (i : Nat) : Word := BitVec.ofNat 16 (page.toNat * 0x100 + i)

/-- No byte of the copy is read from a cell that an earlier byte filled: from page 0xFE each byte of `OAM` is its own source. -/
theorem unmirror_dmaSource_ne (page : Byte) {i j : Nat} (hij : i < j) (hj : j < 0xA0) :
    (unmirror (dmaSource page j)).toNat ≠ oamBase + i := by
  have hpage := page.isLt
  have hbase : oamBase = 0xFE00 := rfl
  have haddr : (dmaSource page j).toNat = page.toNat * 0x100 + j := by rw [dmaSource, BitVec.toNat_ofNat]; omega
  rw [unmirror_toNat]
  split <;> omega

/-- Each byte of the copy is what the Bus gave for its source before the copy. -/
theorem busGet_dmaSource {page : Byte} {count i : Nat} {s t : State} (hw : Memory.wf s.mem = true) (hlen : i + count ≤ 0xA0)
    (h : dmaCopy page count i s = .ok t) {j : Nat} (hi : i ≤ j) (hj : j < i + count) :
    busGet s (dmaSource page j) = .ok (t.peek (oamBase + j)) := by
  induction count generalizing i s with
  | zero => omega
  | succ n ih =>
    obtain ⟨v, hv, h⟩ := Res.bind_eq_ok.mp h
    have hw' := State.poke_wf hw (oamBase + i) v
    have hkey : oamBase + i < cramBase := by simp only [oamBase, cramBase]; omega
    rcases Nat.eq_or_lt_of_le hi with rfl | hlt
    · rw [dmaCopy_other hw' h (by omega), State.peek_poke hw, if_pos rfl]
      exact hv
    · rw [← busGet_poke_of_ne hw hkey v (unmirror_dmaSource_ne page hlt (by omega))]
      exact ih hw' (by omega) h hlt (by omega)

/-- Settles O47: the write is `dmaCopy` in the state with `dma_w` stored, which answers where its source block does. -/
theorem dmaCopiesTheBlock : Obligations.DmaCopiesTheBlock := by
  intro s v s1 len hw hstore
  have hlen : len ≤ 0xA0 := dmaBytes_le s.cfg
  obtain ⟨t, ht⟩ := (busSet_answers s 0xFF46 v).mpr hstore
  have hcopy : dmaCopy v len 0 s1 = .ok t := by rwa [busSet_ppu s (off := 6) rfl (by decide)] at ht
  refine ⟨t, ht, dmaCopy_frame hcopy, fun i hi => ?_, fun k hk => ?_⟩
  · exact busGet_dmaSource (s := s1) hw (by omega) hcopy (Nat.zero_le i) (by omega)
  · exact dmaCopy_other (s := s1) hw hcopy (by simp only [oamBase]; omega)

end Sys2Proof.Machine
end

section
/-! PROOFS. The line and mode machine of the PPU (61_ppu.md R164-R169, R176). -/

namespace Sys2Proof.Machine

/-! ### One tick (R164) -/

theorem lineBoundaries_eq_iterate (k : Nat) (s : State) : lineBoundaries k s = lineBoundary^[k] s := by
  induction k generalizing s with
  | zero => rfl
  | succ k ih => rw [lineBoundaries, ih, Function.iterate_succ_apply]

/-- A tick that ends in the line it began in. -/
theorem ppuTick_inLine {n : Nat} {s : State} (h : s.ppu.acc + n < 456) :
    ppuTick n s = modeInLine { s with ppu := { s.ppu with acc := s.ppu.acc + n } } := by
  simp only [ppuTick, lineCycles, Nat.div_eq_of_lt h, Nat.mod_eq_of_lt h, if_true]

/-- A tick that crosses a line boundary or more. -/
theorem ppuTick_crossing {n : Nat} {s : State} (h : 456 ≤ s.ppu.acc + n) :
    ppuTick n s = lineBoundary^[(s.ppu.acc + n) / 456] { s with ppu := { s.ppu with acc := (s.ppu.acc + n) % 456 } } := by
  have hpos : (s.ppu.acc + n) / 456 ≠ 0 := (Nat.div_pos h (by decide)).ne'
  simp only [ppuTick, lineCycles, if_neg hpos, lineBoundaries_eq_iterate]

/-- Settles O50: within the line the mode follows the place in it; else the boundaries run, as many as the cycles make. -/
theorem ppuTickResult : Obligations.PpuTickResult := by
  intro n s acc
  refine ⟨fun hacc hvisible => ?_, fun hacc hvblank => ?_, fun hacc => ppuTick_crossing hacc⟩
  · rw [ppuTick_inLine hacc]
    exact if_pos hvisible
  · rw [ppuTick_inLine hacc]
    exact if_neg (Nat.not_lt.mpr hvblank)

/-! ### One line boundary (R165-R169, R176) -/

theorem framePixel_set_ne (f : Frame) {y y' : Nat} (h : y ≠ y') (row : List Shade) (x : Nat) :
    framePixel (f.set y' row) y x = framePixel f y x := by
  have hrow : (f.set y' row).getD y [] = f.getD y [] := by
    rw [List.getD_eq_getElem?_getD, List.getElem?_set_ne h.symm, ← List.getD_eq_getElem?_getD]
  rw [framePixel, hrow, framePixel]

/-- The requests of a line boundary: LCD-STAT on a match (`hit`) and on entering VBlank (`stat`), VBlank on entering it (`enter`).
Made one after the other, as `lineBoundary_eq` writes them, they are the two bits of the statement. -/
theorem lineRequests_eq (flags : Byte) (hit enter stat : Bool) :
    (let q := if hit = true then flags ||| ((1 : Byte) <<< 1) else flags
      if enter = true then
        (if stat = true then q ||| ((1 : Byte) <<< 0) ||| ((1 : Byte) <<< 1) else q ||| ((1 : Byte) <<< 0))
      else q) =
    flags ||| (if (hit || (enter && stat)) = true then 0x02 else 0) ||| (if enter = true then 0x01 else 0) := by
  cases enter with
  | false => cases hit <;> simp
  | true => cases hit <;> cases stat <;> simp [BitVec.or_assoc]

/-- Settles O51: the record of `lineBoundary_eq`, with the requests it makes one after the other taken together. -/
theorem lineBoundaryResult : Obligations.LineBoundaryResult := by
  intro s t ly' hit v stat vbl
  have hback : t.ppu.back = renderedBack s := by rw [show t = _ from lineBoundary_eq s]
  refine ⟨?_, fun y x hy => ?_, fun hvblank => ?_⟩
  · rw [hback]
    have hline : nextLine s.ppu.ly = ly' := rfl
    have hhit : (ly' == s.ppu.lyc) = hit := beq_eq_decide ..
    have hflags : _ = s.irq.flags ||| stat ||| vbl :=
      lineRequests_eq s.irq.flags (hit && s.ppu.statW.getLsbD 6) v (s.ppu.statW.getLsbD 4)
    simp only [v, decide_eq_true_eq] at hflags ⊢
    simp only [show t = _ from lineBoundary_eq s, hline, hhit, hflags, ge_iff_le]
  · rw [hback, renderedBack]
    split
    · exact framePixel_set_ne _ hy _ _
    · rfl
  · rw [hback, renderedBack, if_neg (Nat.not_lt.mpr hvblank)]

/-! ### Line by line through a frame (R167, R168) -/

theorem nextLine_toNat (ly : Byte) : (nextLine ly).toNat = if 153 ≤ ly.toNat then 0 else ly.toNat + 1 := by
  have hlast : lastLine = 153 := rfl
  unfold nextLine
  split
  · rw [if_pos (by omega)]
    rfl
  · rw [if_neg (by omega), BitVec.toNat_add_of_lt (show ly.toNat + 1 < 2 ^ 8 by omega)]
    rfl

theorem nextLine_eq_144_iff (ly : Byte) : (nextLine ly).toNat = 144 ↔ ly.toNat = 143 := by
  rw [nextLine_toNat]
  split <;> omega

/-- A boundary into line 144 publishes the frame and requests the VBlank interrupt. -/
theorem lineBoundary_enter {s : State} (h : s.ppu.ly.toNat = 143) :
    (lineBoundary s).ppu.ly.toNat = 144 ∧ (lineBoundary s).ppu.mode = .vblank ∧ (lineBoundary s).irq.flags.getLsbD 0 = true ∧
      (lineBoundary s).ppu.front = (lineBoundary s).ppu.back := by
  have hline : (nextLine s.ppu.ly).toNat = 144 := (nextLine_eq_144_iff _).mpr h
  rw [lineBoundary_eq]
  refine ⟨hline, if_pos hline.ge, ?_, if_pos hline⟩
  simp only [hline, if_true]
  split <;> simp

/-- A boundary out of a line other than 143 does neither. -/
theorem lineBoundary_other {s : State} (h : s.ppu.ly.toNat ≠ 143) :
    (lineBoundary s).irq.flags.getLsbD 0 = s.irq.flags.getLsbD 0 ∧ (lineBoundary s).ppu.front = s.ppu.front := by
  have hline : (nextLine s.ppu.ly).toNat ≠ 144 := (nextLine_eq_144_iff _).not.mpr h
  rw [lineBoundary_eq]
  refine ⟨?_, if_neg hline⟩
  simp only [if_neg hline]
  split <;> simp

/-- A boundary out of the last line leads to line 0, in HBlank. -/
theorem lineBoundary_wrap {s : State} (h : s.ppu.ly.toNat = 153) : (lineBoundary s).ppu.ly = 0 ∧ (lineBoundary s).ppu.mode = .hblank := by
  have hline : nextLine s.ppu.ly = 0 := BitVec.eq_of_toNat_eq (by rw [nextLine_toNat, if_pos h.ge]; rfl)
  rw [lineBoundary_eq, hline]
  exact ⟨rfl, rfl⟩

theorem lineBoundary_ly (s : State) : (lineBoundary s).ppu.ly = nextLine s.ppu.ly := by rw [lineBoundary_eq]

theorem lineBoundary_acc (s : State) : (lineBoundary s).ppu.acc = s.ppu.acc := by rw [lineBoundary_eq]

/-- At the start of a line a tick of a whole line is one boundary. -/
theorem ppuTick_wholeLine {s : State} (h : s.ppu.acc = 0) : ppuTick 456 s = lineBoundary s := by
  have hkeep : { s with ppu := { s.ppu with acc := 0 } } = s := by rw [← h]
  have htick := ppuTick_crossing (n := 456) (s := s) (by omega)
  rwa [h, hkeep] at htick

theorem ppuTick_wholeLines {s : State} (h : s.ppu.acc = 0) (m : Nat) : (ppuTick 456)^[m] s = lineBoundary^[m] s := by
  induction m generalizing s with
  | zero => rfl
  | succ m ih =>
    rw [Function.iterate_succ_apply, ppuTick_wholeLine h, ih ((lineBoundary_acc s).trans h), Function.iterate_succ_apply]

/-- After `m` boundaries from line 0, up to the last line, the line is `m`. -/
theorem ly_lineBoundaries {s : State} (h : s.ppu.ly = 0) {m : Nat} (hm : m ≤ 153) : (lineBoundary^[m] s).ppu.ly.toNat = m := by
  induction m with
  | zero => rw [Function.iterate_zero_apply, h]; rfl
  | succ m ih => rw [Function.iterate_succ_apply', lineBoundary_ly, nextLine_toNat, ih (by omega), if_neg (by omega)]

/-- Before the boundary into line 144 no VBlank interrupt is requested. -/
theorem vblankFlag_lineBoundaries {s : State} (h : s.ppu.ly = 0) {m : Nat} (hm : m ≤ 143) :
    (lineBoundary^[m] s).irq.flags.getLsbD 0 = s.irq.flags.getLsbD 0 := by
  induction m with
  | zero => rfl
  | succ m ih =>
    have hly := ly_lineBoundaries h (m := m) (by omega)
    rw [Function.iterate_succ_apply', (lineBoundary_other (by omega)).1, ih (by omega)]

/-- Settles O52: the ticks are boundaries, the 144th of them that into line 144 and the 154th that out of line 153. -/
theorem frameOfTicks : Obligations.FrameOfTicks := by
  intro s hly hacc
  simp only [ppuTick_wholeLines hacc]
  refine ⟨fun m hm => ⟨ly_lineBoundaries hly (by omega), vblankFlag_lineBoundaries hly hm⟩, ?_, ?_⟩
  · rw [Function.iterate_succ_apply']
    exact lineBoundary_enter (ly_lineBoundaries hly (by decide))
  · rw [Function.iterate_succ_apply']
    exact lineBoundary_wrap (ly_lineBoundaries hly le_rfl)

/-! ### The published frame in a step (R167, R176) -/

/-- A tick shorter than two lines that changes `front` makes the boundary into line 144. -/
theorem ppuTick_publishes {n : Nat} {s : State} (hn : s.ppu.acc + n < 912) (hfront : (ppuTick n s).ppu.front ≠ s.ppu.front) :
    s.ppu.ly.toNat = 143 ∧ (ppuTick n s).ppu.ly.toNat = 144 ∧ (ppuTick n s).ppu.mode = .vblank ∧
      (ppuTick n s).irq.flags.getLsbD 0 = true ∧ (ppuTick n s).ppu.front = (ppuTick n s).ppu.back := by
  rcases Nat.lt_or_ge (s.ppu.acc + n) 456 with hin | hcross
  · rw [ppuTick_inLine hin, modeInLine] at hfront
    split at hfront <;> exact absurd rfl hfront
  · have hone : (s.ppu.acc + n) / 456 = 1 := by omega
    rw [ppuTick_crossing hcross, hone] at hfront ⊢
    by_cases h143 : s.ppu.ly.toNat = 143
    · exact ⟨h143, lineBoundary_enter (s := { s with ppu := _ }) h143⟩
    · exact absurd (lineBoundary_other (s := { s with ppu := { s.ppu with acc := (s.ppu.acc + n) % 456 } }) h143).2 hfront

/-- What the publication depends on: the line, the place in it and the published frame. No write through the Bus changes it. -/
def Ppu.published (p : Ppu) : Byte × Nat × Frame := (p.ly, p.acc, p.front)

theorem busSet_published {s t : State} {a : Word} {v : Byte} (h : busSet s a v = .ok t) : t.ppu.published = s.ppu.published := by
  have register : ∀ off, (ppuSet s.ppu v off).published = s.ppu.published := fun off => by unfold ppuSet; split <;> rfl
  rcases busSet_cases h with rfl | ⟨-, m, rfl, -⟩ | ⟨k, -, -, -, rfl⟩ | rfl | ⟨x, rfl⟩ | ⟨off, rfl⟩ | rfl | rfl | ⟨off, -, rfl⟩ |
    ⟨-, hdma⟩ | ⟨-, rfl⟩
  case inr.inr.inr.inr.inr.inr.inr.inr.inl => exact register off
  case inr.inr.inr.inr.inr.inr.inr.inr.inr.inl =>
    rw [dmaCopy_frame hdma]
    rfl
  all_goals rfl

/-- The CPU's phase of a step changes the PPU through the Bus alone. -/
theorem cpuStep_published {s t : State} {c : Nat} (h : cpuStep s = .next (t, c)) : t.ppu.published = s.ppu.published :=
  cpuStep_induct (P := fun u => u.ppu.published = s.ppu.published) (fun _ _ _ => id) (fun _ _ _ _ hu h => (busSet_published h).trans hu)
    (fun _ _ => id) rfl h

theorem cpuStep_cycles_le {s t : State} {c : Nat} (h : cpuStep s = .next (t, c)) : c ≤ 24 := by
  rcases cpuStep_eq_next h with ⟨-, rfl, -⟩ | ⟨-, rfl, -⟩ | ⟨i, u, -, hexec, rfl⟩
  · decide
  · decide
  · have hdefined : ∀ op, i ≠ .illegal op := by
      rintro op rfl
      cases hexec
    obtain ⟨-, -, hmax, -⟩ := cyclesAreBounded i u hdefined
    exact hmax

/-- Settles O59: only the PPU's tick changes `front`; it is too short for more than one line boundary. -/
theorem frontChangesOnlyOnEnteringVBlank : Obligations.FrontChangesOnlyOnEnteringVBlank := by
  intro s t hacc hstep hfront
  obtain ⟨u, c, hcpu, rfl⟩ := step_eq_next.mp hstep
  have hc : c ≤ 24 := cpuStep_cycles_le hcpu
  have hticked : (timerTick c u).ppu.published = s.ppu.published := by
    obtain ⟨j, q, es, hinputs⟩ := deliverInputs_frame s
    obtain ⟨x, q', htimer⟩ := timerTick_frame c u
    rw [htimer]
    exact (cpuStep_published hcpu).trans (by rw [hinputs])
  generalize timerTick c u = w at hticked hfront ⊢
  obtain ⟨hly, hplace, hold⟩ : w.ppu.ly = s.ppu.ly ∧ w.ppu.acc = s.ppu.acc ∧ w.ppu.front = s.ppu.front := by
    simpa [Ppu.published] using hticked
  rw [← hly]
  exact ppuTick_publishes (by omega) (hold ▸ hfront)

end Sys2Proof.Machine
end

section
/-! PROOFS. The pixels of a rendered line (61_ppu.md R170-R174). -/

namespace Sys2Proof.Machine

/-! ### The rendered row (R170) -/

theorem framePixel_lineBoundary {s : State} {x : Nat} (hly : s.ppu.ly.toNat < 144) (hx : x < 160) (hrows : s.ppu.back.length = 144) :
    framePixel (lineBoundary s).ppu.back s.ppu.ly.toNat x = pixelShade s s.ppu.ly.toNat x := by
  have hback : (lineBoundary s).ppu.back =
      s.ppu.back.set s.ppu.ly.toNat ((List.range 160).map (pixelShade s s.ppu.ly.toNat)) := by
    rw [lineBoundary_eq]
    exact if_pos hly
  simp [hback, framePixel, List.getD_eq_getElem?_getD, hrows, hly, hx]

/-! ### Tiles, background and window (R171-R173) -/

theorem planeBits_eq (lo hi : Byte) (b : Nat) :
    planeBits lo hi b = (if hi.getLsbD b then 2 else 0) + (if lo.getLsbD b then 1 else 0) := by
  unfold planeBits
  cases hi.getLsbD b <;> cases lo.getLsbD b <;> rfl

theorem vramByte_eq {s : State} {i a : Nat} (h : a = 0x8000 + i) : vramByte s i = s.peek a := by
  rw [h]
  rfl

theorem tilePixel_eq (s : State) (t : Byte) (row col : Nat) : tilePixel s t row col = tilePixelAt s t row col := by
  have haddr : (if s.ppu.lcdc.getLsbD 4 then 0x8000 + 16 * t.toNat
      else if t.toNat < 128 then 0x9000 + 16 * t.toNat else 0x8800 + 16 * (t.toNat - 128)) = 0x8000 + tileOffset s.ppu.lcdc t := by
    unfold tileOffset
    split_ifs <;> omega
  simp only [tilePixel, tilePixelAt, haddr, planeBits_eq, vramByte, vramBase, Nat.add_assoc]

theorem mapPixel_mapBase (s : State) (select : Bool) (my mx : Nat) : mapPixel s (mapBase select) my mx =
    tilePixelAt s (s.peek ((if select then 0x9C00 else 0x9800) + 32 * (my / 8) + mx / 8)) (my % 8) (mx % 8) := by
  rw [mapPixel, tilePixel_eq, vramByte_eq]
  cases select <;> simp [mapBase] <;> omega

theorem windowCovers_iff {p : Ppu} (hon : p.lcdc.getLsbD 0 = true) (ly x : Nat) :
    windowCovers p ly x = true ↔ p.lcdc.getLsbD 5 = true ∧ p.wy.toNat ≤ ly ∧ p.wx.toNat ≤ x + 7 := by
  simp [windowCovers, hon, and_assoc]

theorem bgIndex_of_window {s : State} {ly x : Nat} (hon : s.ppu.lcdc.getLsbD 0 = true) (h : windowCovers s.ppu ly x = true) :
    bgIndex s ly x = mapPixel s (mapBase (s.ppu.lcdc.getLsbD 6)) (ly - s.ppu.wy.toNat) (x + 7 - s.ppu.wx.toNat) := by
  simp [bgIndex, hon, h]

theorem bgIndex_of_background {s : State} {ly x : Nat} (hon : s.ppu.lcdc.getLsbD 0 = true) (h : ¬ windowCovers s.ppu ly x = true) :
    bgIndex s ly x =
      mapPixel s (mapBase (s.ppu.lcdc.getLsbD 3)) ((ly + s.ppu.scy.toNat) % 256) ((x + s.ppu.scx.toNat) % 256) := by
  simp [bgIndex, hon, h]

/-- Settles O53: with sprites off a pixel is `bgShade`, the shade of a pixel of the map the window or the background selects. -/
theorem backgroundAndWindowPixels : Obligations.BackgroundAndWindowPixels := by
  intro s x p ly at_ shade got hly hx hrows hsprites
  have hgot : got = bgShade s ly x := by
    rw [show got = pixelShade s ly x from framePixel_lineBoundary hly hx hrows, pixelShade, if_neg (Bool.eq_false_iff.mp hsprites)]
  refine ⟨fun hoff => ?_, fun hon => ?_⟩
  · rw [hgot, bgShade, if_neg (Bool.eq_false_iff.mp hoff)]
  have ofMap {select : Bool} {my mx : Nat} (h : bgIndex s ly x = mapPixel s (mapBase select) my mx) :
      got = shade (at_ (if select then 0x9C00 else 0x9800) my mx) := by
    rw [hgot, bgShade, if_pos hon, h, mapPixel_mapBase]
    rfl
  rw [← windowCovers_iff hon]
  exact ⟨fun h => ofMap (bgIndex_of_window hon h), fun h => ofMap (bgIndex_of_background hon h)⟩

/-! ### Sprites (R174) -/

/-- The index of the pixel in column `px` of entry `i`'s box, on the row of its tile that is drawn at line `ly`. -/
def spriteIndex (s : State) (ly i px : Nat) : Nat :=
  let h := spriteHeight s.ppu.lcdc
  let line := ly + 16 - (oamByte s (4 * i)).toNat
  let tile := (oamByte s (4 * i + 2)).toNat
  let attributes := oamByte s (4 * i + 3)
  let row := if attributes.getLsbD 6 then h - 1 - line else line
  let t := if h = 16 then tile - tile % 2 else tile
  planeBits (vramByte s (16 * t + 2 * row)) (vramByte s (16 * t + 2 * row + 1)) (if attributes.getLsbD 5 then px else 7 - px)

/-- The same index, computed in the signed coordinates and at the bus addresses of `SpriteDraws`. -/
def signedSpriteIndex (s : State) (ly i px : Nat) : Nat :=
  let h : Int := if s.ppu.lcdc.getLsbD 2 then 16 else 8
  let line : Int := ly - ((oamByte s (4 * i)).toNat - 16)
  let tile := oamByte s (4 * i + 2)
  let attributes := oamByte s (4 * i + 3)
  let row : Int := if attributes.getLsbD 6 then h - 1 - line else line
  let t : Nat := if s.ppu.lcdc.getLsbD 2 then (tile &&& 0xFE).toNat else tile.toNat
  let lo := s.peek (0x8000 + 16 * t + 2 * row.toNat)
  let hi := s.peek (0x8000 + 16 * t + 2 * row.toNat + 1)
  let b := if attributes.getLsbD 5 then px else 7 - px
  (if hi.getLsbD b then 2 else 0) + (if lo.getLsbD b then 1 else 0)

/-- The box of entry `i` reaches line `ly`. -/
abbrev SpriteOnLine (s : State) (ly i : Nat) : Prop :=
  (oamByte s (4 * i)).toNat ≤ ly + 16 ∧ ly + 16 < (oamByte s (4 * i)).toNat + spriteHeight s.ppu.lcdc

/-- Entry `i` shows shade `c` for the pixel index `index` over the background index `bg`: it is not transparent, and the background does
not have priority over it. -/
def SpriteShows (s : State) (bg i index : Nat) (c : Shade) : Prop :=
  index ≠ 0 ∧ ¬ ((oamByte s (4 * i + 3)).getLsbD 7 = true ∧ bg ≠ 0) ∧
    c = paletteShade (if (oamByte s (4 * i + 3)).getLsbD 4 then s.ppu.obp1 else s.ppu.obp0) index

theorem spriteDraws_iff_signed {s : State} {ly x bg i : Nat} {c : Shade} : SpriteDraws s ly x bg i c ↔
    ((oamByte s (4 * i)).toNat : Int) - 16 ≤ ly ∧
    (ly : Int) < (oamByte s (4 * i)).toNat - 16 + (if s.ppu.lcdc.getLsbD 2 then 16 else 8) ∧
    ∃ px : Nat, px < 8 ∧ (x : Int) = (oamByte s (4 * i + 1)).toNat - 8 + px ∧
      SpriteShows s bg i (signedSpriteIndex s ly i px) c := Iff.rfl

theorem spriteHeight_cast (lcdc : Byte) : (if lcdc.getLsbD 2 then 16 else 8 : Int) = spriteHeight lcdc := by
  unfold spriteHeight
  split <;> rfl

theorem and_0xFE_toNat : ∀ t : Byte, (t &&& 0xFE).toNat = t.toNat - t.toNat % 2 := by decide

theorem signedSpriteIndex_eq {s : State} {ly i : Nat} (h : SpriteOnLine s ly i) (px : Nat) :
    signedSpriteIndex s ly i px = spriteIndex s ly i px := by
  have htile (t : Byte) : (if s.ppu.lcdc.getLsbD 2 then (t &&& 0xFE).toNat else t.toNat) =
      if spriteHeight s.ppu.lcdc = 16 then t.toNat - t.toNat % 2 else t.toNat := by
    unfold spriteHeight
    split
    · rw [if_pos rfl, and_0xFE_toNat]
    · rw [if_neg (by decide)]
  have hrow (flip : Bool) : (if flip then (spriteHeight s.ppu.lcdc : Int) - 1 - (ly - ((oamByte s (4 * i)).toNat - 16))
      else ly - ((oamByte s (4 * i)).toNat - 16)).toNat =
      if flip then spriteHeight s.ppu.lcdc - 1 - (ly + 16 - (oamByte s (4 * i)).toNat) else ly + 16 - (oamByte s (4 * i)).toNat := by
    split <;> omega
  simp only [signedSpriteIndex, spriteIndex, spriteHeight_cast, htile, hrow, planeBits_eq, vramByte, vramBase, Nat.add_assoc]

theorem spritePixel_eq (s : State) (ly x i : Nat) : spritePixel s ly x i =
    if SpriteOnLine s ly i ∧ (oamByte s (4 * i + 1)).toNat ≤ x + 8 ∧ x + 8 < (oamByte s (4 * i + 1)).toNat + 8 then
      let index := spriteIndex s ly i (x + 8 - (oamByte s (4 * i + 1)).toNat)
      if index = 0 ∨ ((oamByte s (4 * i + 3)).getLsbD 7 ∧ bgIndex s ly x ≠ 0) then none
      else some (paletteShade (if (oamByte s (4 * i + 3)).getLsbD 4 then s.ppu.obp1 else s.ppu.obp0) index)
    else none := by
  simp only [and_assoc]
  rfl

theorem spritePixel_eq_some_iff {s : State} {ly x i : Nat} {c : Shade} : spritePixel s ly x i = some c ↔
    (SpriteOnLine s ly i ∧ (oamByte s (4 * i + 1)).toNat ≤ x + 8 ∧ x + 8 < (oamByte s (4 * i + 1)).toNat + 8) ∧
      SpriteShows s (bgIndex s ly x) i (spriteIndex s ly i (x + 8 - (oamByte s (4 * i + 1)).toNat)) c := by
  rw [spritePixel_eq, SpriteShows]
  generalize spriteIndex s ly i (x + 8 - (oamByte s (4 * i + 1)).toNat) = index
  split
  next hbox =>
    rw [and_iff_right hbox]
    dsimp only
    split
    next hhidden => exact iff_of_false nofun fun ⟨hopaque, hfront, _⟩ => hhidden.elim hopaque hfront
    next hshown =>
      rw [not_or] at hshown
      rw [and_iff_right hshown.1, and_iff_right hshown.2, Option.some.injEq, eq_comm]
  next hbox => exact iff_of_false nofun fun h => hbox h.1

/-- The model's pixel of an entry is the one that the rule draws. -/
theorem spritePixel_iff_spriteDraws {s : State} {ly x i : Nat} {c : Shade} :
    spritePixel s ly x i = some c ↔ SpriteDraws s ly x (bgIndex s ly x) i c := by
  rw [spritePixel_eq_some_iff, spriteDraws_iff_signed, spriteHeight_cast]
  constructor
  · rintro ⟨⟨hline, hleft, hright⟩, hshows⟩
    refine ⟨by omega, by omega, x + 8 - (oamByte s (4 * i + 1)).toNat, by omega, by omega, ?_⟩
    rwa [signedSpriteIndex_eq hline]
  · rintro ⟨htop, hbottom, px, hpx, hx, hshows⟩
    have hline : SpriteOnLine s ly i := ⟨by omega, by omega⟩
    have hcolumn : x + 8 - (oamByte s (4 * i + 1)).toNat = px := by omega
    rw [signedSpriteIndex_eq hline, ← hcolumn] at hshows
    exact ⟨⟨hline, by omega, by omega⟩, hshows⟩

/-! ### The overlay of the sprites (R174) -/

theorem foldl_overlay_of_none {s : State} {ly x : Nat} {l : List Nat} (h : ∀ i ∈ l, spritePixel s ly x i = none) (under : Shade) :
    l.foldl (overlay s ly x) under = under := by
  induction l with
  | nil => rfl
  | cons i l ih =>
    obtain ⟨hi, hl⟩ := List.forall_mem_cons.mp h
    rw [List.foldl_cons, overlay, hi, Option.getD_none, ih hl]

/-- In a processing order `before`, the last entry that draws decides the pixel. -/
theorem foldl_overlay_of_last {s : State} {ly x : Nat} {before : Nat → Nat → Prop} {l : List Nat} (hl : l.Pairwise before)
    {i : Nat} (hi : i ∈ l) {c : Shade} (hdraws : spritePixel s ly x i = some c)
    (hlast : ∀ j ∈ l, before i j → spritePixel s ly x j = none) (under : Shade) : l.foldl (overlay s ly x) under = c := by
  induction l generalizing under with
  | nil => cases hi
  | cons k l ih =>
    obtain ⟨hk, hl⟩ := List.pairwise_cons.mp hl
    obtain ⟨-, hlast'⟩ := List.forall_mem_cons.mp hlast
    rw [List.foldl_cons]
    by_cases hil : i ∈ l
    · exact ih hl hil hlast' _
    · obtain rfl : i = k := (List.mem_cons.mp hi).resolve_right hil
      rw [foldl_overlay_of_none fun j hj => hlast' j hj (hk j hj), overlay, hdraws, Option.getD_some]

theorem mem_spriteSequence {cfg : Config} {i : Nat} : i ∈ spriteSequence cfg ↔ i < 40 := by
  unfold spriteSequence
  split <;> simp

theorem spriteSequence_laterOamWins {cfg : Config} (h : cfg.spriteOrder = .laterOamWins) : (spriteSequence cfg).Pairwise (· < ·) := by
  rw [spriteSequence, h]
  exact List.pairwise_lt_range

theorem spriteSequence_earlierOamWins {cfg : Config} (h : cfg.spriteOrder = .earlierOamWins) :
    (spriteSequence cfg).Pairwise (fun i j => j < i) := by
  rw [spriteSequence, h]
  exact List.pairwise_reverse.mpr List.pairwise_lt_range

/-- Settles O54: the pixel is the overlay of the 40 entries in the processing order, each drawing what the rule draws. -/
theorem spritePixels : Obligations.SpritePixels := by
  intro s x ly draws got hly hx hrows hsprites
  have hgot : got = (spriteSequence s.cfg).foldl (overlay s ly x) (bgShade s ly x) := by
    rw [show got = pixelShade s ly x from framePixel_lineBoundary hly hx hrows, pixelShade, if_pos hsprites]
  have hnone {i : Nat} (h : ∀ c, ¬ draws i c) : spritePixel s ly x i = none :=
    Option.eq_none_iff_forall_ne_some.mpr fun c hc => h c (spritePixel_iff_spriteDraws.mp hc)
  rw [hgot]
  refine ⟨fun h => foldl_overlay_of_none (fun i hi => hnone (h i (mem_spriteSequence.mp hi))) _, fun i hi c hdraws => ?_⟩
  have hpixel : spritePixel s ly x i = some c := spritePixel_iff_spriteDraws.mpr hdraws
  have hmem := mem_spriteSequence (cfg := s.cfg).mpr hi
  refine ⟨fun horder hlast => ?_, fun horder hlast => ?_⟩
  · exact foldl_overlay_of_last (spriteSequence_laterOamWins horder) hmem hpixel
      (fun j hj hij => hnone (hlast j (mem_spriteSequence.mp hj) hij)) _
  · exact foldl_overlay_of_last (spriteSequence_earlierOamWins horder) hmem hpixel (fun j _ hji => hnone (hlast j hji)) _

end Sys2Proof.Machine
end
